-- ==== Sys2Proof/Word.lean ====
section
/-! DEFINITION. The plain data every other file is written with: bytes, the index types of section 4.4 of
the introduction (00_scope.md), and tables of a fixed size. -/

namespace Sys2Proof

/-- A byte of the control lane or of a frame. -/
abbrev Byte := BitVec 8
/-- A station's 48-bit factory-set unique id (00, Nomenclature). -/
abbrev Uid := BitVec 48
/-- A sequence stamp, an unsigned 32-bit number (00, section 4.7). -/
abbrev Stamp := BitVec 32
/-- A section set as the wire carries it: bit i set for section i (11, section 11.1). -/
abbrev SecSet := BitVec 16
/-- Spurs 0–3. -/
abbrev SpurIx := Fin 4
/-- Station addresses 1–192; the index is the address less one. -/
abbrev Addr := Fin 192
/-- Sections 0–15. -/
abbrev SecIx := Fin 16
/-- Room ids 0–15. -/
abbrev RoomIx := Fin 16
/-- Walls 0–23. -/
abbrev WallIx := Fin 24
/-- Contact lines 0–23. -/
abbrev LineIx := Fin 24
/-- Talk and listen slots 0–15 of a spur. -/
abbrev SlotIx := Fin 16
/-- Booths 1–8; the index is the booth number less one. -/
abbrev BoothIx := Fin 8
/-- Consoles 1–3 within a booth; the index is the console number less one. -/
abbrev ConsoleIx := Fin 3
/-- Language channels 1–12; the index is the channel number less one. -/
abbrev ChanIx := Fin 12
/-- Inject inputs 0–3. -/
abbrev InjectIx := Fin 4
/-- Profile entries 0–31. -/
abbrev EntryIx := Fin 32
/-- Language codes 0–63; 0 is the floor, or no language. -/
abbrev Lang := Fin 64
/-- An audio sample (00, section 4.6), held as the number it stands for. -/
abbrev Sample := Int

/-- A table of exactly n entries. The size travels with the data, so that no later proof states it again. -/
structure Tab (n : Nat) (α : Type) where
  data : List α
  size : data.length = n
  deriving DecidableEq, Repr

/-- The entry at an index. -/
def Tab.get {n : Nat} {α : Type} (t : Tab n α) (i : Fin n) : α :=
  t.data.get (i.cast t.size.symm)

/-- The table with one entry replaced. -/
def Tab.set {n : Nat} {α : Type} (t : Tab n α) (i : Fin n) (x : α) : Tab n α :=
  ⟨t.data.set i.val x, by rw [List.length_set]; exact t.size⟩

/-- The table with one entry changed. -/
def Tab.modify {n : Nat} {α : Type} (t : Tab n α) (i : Fin n) (f : α → α) : Tab n α :=
  t.set i (f (t.get i))

/-- Every entry through a function. -/
def Tab.map {n : Nat} {α β : Type} (t : Tab n α) (f : α → β) : Tab n β :=
  ⟨t.data.map f, by rw [List.length_map]; exact t.size⟩

/-- The table whose entries a function of the index gives. -/
def Tab.ofFn {n : Nat} {α : Type} (f : Fin n → α) : Tab n α :=
  ⟨(List.finRange n).map f, by simp⟩

/-- The table with one value everywhere. -/
def Tab.fill {α : Type} (n : Nat) (x : α) : Tab n α :=
  ⟨List.replicate n x, by simp⟩

/-- The state after the step f has been applied for each index in ascending order. -/
def eachFin {σ : Type} (n : Nat) (f : Fin n → σ → σ) (s : σ) : σ :=
  (List.finRange n).foldl (fun s i => f i s) s

/-- The indices at which a test holds, ascending. -/
def finsWhere (n : Nat) (p : Fin n → Bool) : List (Fin n) :=
  (List.finRange n).filter p

/-- The lowest index at which a test holds. -/
def lowestFin (n : Nat) (p : Fin n → Bool) : Option (Fin n) :=
  (List.finRange n).find? p

/-- A number as an index, where it is in range. -/
def toFin? (n : Nat) (k : Nat) : Option (Fin n) :=
  if h : k < n then some ⟨k, h⟩ else none

/-- Insertion into a list kept in the order of a relation; an equal entry already there stays in front. -/
def insertBy {α : Type} (before : α → α → Bool) (x : α) : List α → List α
  | [] => [x]
  | y :: ys => if before x y then x :: y :: ys else y :: insertBy before x ys

/-- A list put in the order of a relation. -/
def sortBy {α : Type} (before : α → α → Bool) (xs : List α) : List α :=
  xs.foldl (fun acc x => insertBy before x acc) []

end Sys2Proof
end

