-- ==== Sys2Proof/Machine/Gain.lean ====
section
/-! DEFINITION. The two fixed tables of the mix engine: the factors of the gain codes (R146) and the envelope levels of
the silence thresholds (R162). The statement GainAndLevelTablesAreRounded says that every entry is rounded as the rules
say. -/

namespace Sys2Proof.Machine

/-- Entries 0 to 31 of the gain table (R146). -/
def gainPart0 : List Nat :=
  [0, 1, 1, 1, 1, 1, 1, 1,
   1, 1, 1, 1, 1, 1, 1, 2,
   2, 2, 2, 2, 2, 2, 2, 2,
   3, 3, 3, 3, 3, 3, 4, 4]

/-- Entries 32 to 63 of the gain table (R146). -/
def gainPart1 : List Nat :=
  [4, 4, 5, 5, 5, 6, 6, 6,
   7, 7, 7, 8, 8, 9, 9, 10,
   10, 11, 12, 12, 13, 14, 15, 16,
   16, 17, 18, 20, 21, 22, 23, 25]

/-- Entries 64 to 95 of the gain table (R146). -/
def gainPart2 : List Nat :=
  [26, 28, 29, 31, 33, 35, 37, 39,
   41, 44, 46, 49, 52, 55, 58, 62,
   66, 69, 74, 78, 83, 87, 93, 98,
   104, 110, 117, 123, 131, 139, 147, 155]

/-- Entries 96 to 127 of the gain table (R146). -/
def gainPart3 : List Nat :=
  [165, 174, 185, 196, 207, 220, 233, 246,
   261, 276, 293, 310, 328, 348, 369, 390,
   414, 438, 464, 491, 521, 551, 584, 619,
   655, 694, 735, 779, 825, 874, 926, 981]

/-- Entries 128 to 159 of the gain table (R146). -/
def gainPart4 : List Nat :=
  [1039, 1100, 1165, 1234, 1308, 1385, 1467, 1554,
   1646, 1744, 1847, 1957, 2072, 2195, 2325, 2463,
   2609, 2764, 2927, 3101, 3285, 3479, 3685, 3904,
   4135, 4380, 4640, 4915, 5206, 5514, 5841, 6187]

/-- Entries 160 to 191 of the gain table (R146). -/
def gainPart5 : List Nat :=
  [6554, 6942, 7353, 7789, 8250, 8739, 9257, 9806,
   10387, 11002, 11654, 12345, 13076, 13851, 14672, 15541,
   16462, 17437, 18471, 19565, 20724, 21952, 23253, 24631,
   26090, 27636, 29274, 31008, 32846, 34792, 36854, 39037]

/-- Entries 192 to 223 of the gain table (R146). -/
def gainPart6 : List Nat :=
  [41350, 43801, 46396, 49145, 52057, 55142, 58409, 61870,
   65536, 69419, 73533, 77890, 82505, 87394, 92572, 98057,
   103868, 110022, 116541, 123447, 130762, 138510, 146717, 155410,
   164619, 174373, 184706, 195650, 207243, 219523, 232531, 246309]

/-- Entries 224 to 255 of the gain table (R146). -/
def gainPart7 : List Nat :=
  [260904, 276363, 292739, 310084, 328458, 347920, 368536, 390373,
   413504, 438006, 463959, 491451, 520571, 551417, 584090, 618700,
   655360, 694193, 735326, 778897, 825049, 873937, 925721, 980573,
   1038676, 1100221, 1165413, 1234468, 1307615, 1385096, 1467168, 1554103]

/-- The factors of the gain codes 0 to 255 (R146). -/
def gainTable : List Nat :=
  gainPart0 ++ gainPart1 ++ gainPart2 ++ gainPart3 ++ gainPart4 ++ gainPart5 ++ gainPart6 ++ gainPart7

/-- The factor of a gain code, on a scale where 65,536 is unity (R146). -/
def gain (c : Nat) : Nat := gainTable.getD c 0

/-- Entries 0 to 31 of the silence level table (R162). -/
def levelPart0 : List Nat :=
  [8388608, 7476355, 6663308, 5938680, 5292854, 4717261, 4204263, 3747054,
   3339565, 2976390, 2652711, 2364231, 2107123, 1877975, 1673747, 1491729,
   1329505, 1184922, 1056063, 941217, 838861, 747635, 666331, 593868,
   529285, 471726, 420426, 374705, 333956, 297639, 265271, 236423]

/-- Entries 32 to 63 of the silence level table (R162). -/
def levelPart1 : List Nat :=
  [210712, 187798, 167375, 149173, 132950, 118492, 105606, 94122,
   83886, 74764, 66633, 59387, 52929, 47173, 42043, 37471,
   33396, 29764, 26527, 23642, 21071, 18780, 16737, 14917,
   13295, 11849, 10561, 9412, 8389, 7476, 6663, 5939]

/-- Entries 64 to 95 of the silence level table (R162). -/
def levelPart2 : List Nat :=
  [5293, 4717, 4204, 3747, 3340, 2976, 2653, 2364,
   2107, 1878, 1674, 1492, 1330, 1185, 1056, 941,
   839, 748, 666, 594, 529, 472, 420, 375,
   334, 298, 265, 236, 211, 188, 167, 149]

/-- Entries 96 to 96 of the silence level table (R162). -/
def levelPart3 : List Nat :=
  [133]

/-- The envelope levels of the silence thresholds 0 to 96 dB below full scale (R162). -/
def levelTable : List Nat :=
  levelPart0 ++ levelPart1 ++ levelPart2 ++ levelPart3

/-- The envelope level of a silence threshold (R162). -/
def silenceLevel (d : Nat) : Nat := levelTable.getD d 0

end Sys2Proof.Machine
end

