-- ==== Sys2Proof/Config.lean ====
section
/-! DEFINITION. What is fixed in the part: its sizes (R189), its time base (00 section 4.3), its identity (R195),
and the free values: bits of sent frames that no rule gives a value. -/

namespace Sys2Proof.Config

/-- Frame periods in a second (00, section 4.3). -/
def framesPerSecond : Nat := 48000
/-- Frame periods, and line samples, in a millisecond (00, section 4.2). -/
def framesPerMs : Nat := 48
/-- Frame periods in an epoch (00, section 4.3). -/
def epochFrames : Nat := 1024
/-- Bad periods in a row that take a link DOWN (R4, R12). -/
def failLimit : Nat := 48
/-- Good periods in a row that bring a link UP (R4, R12). -/
def goodLimit : Nat := 480
/-- Where the 16-bit counts of R4, R15, R154 and R178 saturate. -/
def countMax : Nat := 65535
/-- The longest stability count, 255 ms (R42). -/
def stabilityMax : Nat := 12240
/-- Where the silence frames stop (R99). -/
def silenceMax : Nat := 12240000
/-- Where the on-air seconds stop (R98). -/
def secondsMax : Nat := 3600
/-- Stations that may be JOINING or PRESENT on one spur (R21). -/
def spurStations : Nat := 48
/-- Entries of a station command queue (R26). -/
def commandQueueSize : Nat := 32
/-- Entries of the request pool (R78). -/
def poolSize : Nat := 64
/-- Entries of the directive queue (R179). -/
def directiveQueueSize : Nat := 8
/-- Entries of the report queue (R186). -/
def reportQueueSize : Nat := 64
/-- Where the overrun record's count stays (R179). -/
def overrunMax : Nat := 255
/-- The longest payload of a directive (R175). -/
def payloadMax : Nat := 60
/-- Periods without a byte that end a directive (R177). -/
def gapLimit : Nat := 9
/-- Full scale (00, section 4.6). -/
def fullScale : Nat := 8388608
/-- The part identity code (R195). -/
def identity : Nat := 0xC416
/-- The design-step byte (R195). -/
def designStep : Byte := 0x03

/-- DESIGN CHOICE (log 7): the command kind byte of an empty command window. Section 11.3 gives the destination byte
of an empty window and no kind, so the byte is free. -/
opaque emptyWindowKind : Byte

/-- DESIGN CHOICE (log 7): the argument count of an empty command window, of which section 11.3 says only that it lies
from 0 to 6. -/
opaque emptyWindowCount : Fin 7

/-- DESIGN CHOICE (log 7): bits 4 to 6 of byte 90 of an upstream trunk frame, which section 11.2 leaves open. -/
opaque trunkSpareBits : BitVec 3

end Sys2Proof.Config
end

