-- ==== Sys2Proof/Syntax.lean ====
section
/-! DEFINITION. The commands: one constructor for each row of spec/opcode_table.json. Every row is a step of the
part "whole and indivisible" (95_what_each_step_holds.md). A directive row carries the directive's tag and payload
bytes as the lane brought them (R175, R179), so that every form of its payload, malformed ones included, can be
given. A station event carries the spur, the address and uid of its window and its argument bytes (section 11.4). -/

namespace Sys2Proof

/-- How a contact line reads electrically (01, section 1.9 note 1): below the low threshold, above the high
threshold, or between the two, where it keeps its last reading. -/
inductive LineLevel where
  | low
  | between
  | high
  deriving DecidableEq, Repr

/-- The commands the part takes. -/
inductive Instr where
  /-- PWRON_N is taken high (R40; 01 section 1.9 note 3). -/
  | powerOn
  /-- A frame period begins, with the readings of the 24 contact lines in it (R2, R16). -/
  | framePeriodStart (levels : Tab 24 LineLevel)
  /-- The epoch counter has wrapped to 0 (R67). -/
  | epochBoundary
  /-- The bytes found at the expected position of the downstream trunk frame, or nothing (R3, R192). -/
  | trunkFrameReceive (rx : Option (List Byte))
  /-- The trunk's fail run has reached 48 (R4). -/
  | trunkLinkDown
  /-- The trunk's good run has reached 480 (R4). -/
  | trunkLinkUp
  /-- The bytes found at the expected position of a spur's upstream frame, or nothing (R8, R192). -/
  | spurFrameReceive (spur : SpurIx) (rx : Option (List Byte))
  /-- A spur's fail run has reached 48 (R13). -/
  | spurLinkDown (spur : SpurIx)
  /-- A spur's good run has reached 480 (R14). -/
  | spurLinkUp (spur : SpurIx)
  /-- JOIN, with its two argument bytes: station kind and priority key (R21, R193). -/
  | join (spur : SpurIx) (uid : Uid) (arg0 arg1 : Byte)
  | press (spur : SpurIx) (addr : Addr) (uid : Uid)
  | release (spur : SpurIx) (addr : Addr) (uid : Uid)
  | cancel (spur : SpurIx) (addr : Addr) (uid : Uid)
  | next (spur : SpurIx) (addr : Addr) (uid : Uid)
  | priorityPress (spur : SpurIx) (addr : Addr) (uid : Uid)
  | priorityRelease (spur : SpurIx) (addr : Addr) (uid : Uid)
  /-- CONSOLE_ON, with its argument byte: output A or B (R117, R193). -/
  | consoleOn (spur : SpurIx) (addr : Addr) (uid : Uid) (arg0 : Byte)
  | consoleOff (spur : SpurIx) (addr : Addr) (uid : Uid)
  /-- SELECT, with its argument byte: the listen code (R134, R193). -/
  | select (spur : SpurIx) (addr : Addr) (uid : Uid) (arg0 : Byte)
  /-- A spur's poll timer has reached the poll spacing (R32). -/
  | pollTimerFire (spur : SpurIx)
  /-- A LOST record's hold has reached 0 (R36). -/
  | lostHoldExpiry (addr : Addr)
  /-- A line's stability count has reached its threshold against the debounced state (R43, R44). -/
  | debouncedChange (line : LineIx)
  /-- A re-assigned WALL line's count has reached its threshold (R43, R50). -/
  | lineReRead (line : LineIx)
  /-- Every affected id has reached applied code 0 (R69). -/
  | fadeOutEnd
  /-- Every affected ACTIVE id has met its target (R71). -/
  | fadeInEnd
  /-- The mix engine's computation at the end of a frame period (R145). -/
  | frameComputation
  /-- A delegate's on-air seconds have reached the speak limit less 30 (R98). -/
  | warningPeriodStart (addr : Addr)
  /-- A delegate's on-air seconds have reached the speak limit (R98). -/
  | speakLimitClose (addr : Addr)
  /-- A delegate's silence frames have reached the timeout (R99). -/
  | silenceClose (addr : Addr)
  /-- A lane byte is handed to the control lane unit (R175). -/
  | laneByte (byte : Byte)
  /-- The gap count has reached 9 (R177). -/
  | frameTimeout
  /-- The head of the directive queue is executed (R182). -/
  | directiveExecution
  /-- A directive of a kind that is not in the table of section 11.5 (R194). -/
  | unknownDirective (kind tag : Byte) (payload : List Byte)
  | partQuery (tag : Byte) (payload : List Byte)
  | warmRestart (tag : Byte) (payload : List Byte)
  | setTiming (tag : Byte) (payload : List Byte)
  | bindSeat (tag : Byte) (payload : List Byte)
  | unbindSeat (tag : Byte) (payload : List Byte)
  | stationSet (tag : Byte) (payload : List Byte)
  | stationQuery (tag : Byte) (payload : List Byte)
  | sectionSet (tag : Byte) (payload : List Byte)
  | wallSet (tag : Byte) (payload : List Byte)
  | wallQuery (tag : Byte) (payload : List Byte)
  | lineSet (tag : Byte) (payload : List Byte)
  | profileSet (tag : Byte) (payload : List Byte)
  | profileClear (tag : Byte) (payload : List Byte)
  | roomSet (tag : Byte) (payload : List Byte)
  | roomQuery (tag : Byte) (payload : List Byte)
  | mapQuery (tag : Byte) (payload : List Byte)
  /-- FLOOR with action GRANT_HEAD; `rest` is the payload after the action byte, and so for the other five (R96). -/
  | floorGrantHead (tag : Byte) (rest : List Byte)
  | floorGrant (tag : Byte) (rest : List Byte)
  | floorClose (tag : Byte) (rest : List Byte)
  | floorCancel (tag : Byte) (rest : List Byte)
  | floorClearQueue (tag : Byte) (rest : List Byte)
  | floorCloseAll (tag : Byte) (rest : List Byte)
  | queueQuery (tag : Byte) (payload : List Byte)
  | boothSet (tag : Byte) (payload : List Byte)
  | boothQuery (tag : Byte) (payload : List Byte)
  | channelSet (tag : Byte) (payload : List Byte)
  | announce (tag : Byte) (payload : List Byte)
  | spurQuery (tag : Byte) (payload : List Byte)
  deriving DecidableEq, Repr

end Sys2Proof
end

