-- ==== Sys2Proof/Machine/Report.lean ====
section
/-! DEFINITION. The named values of the part's tables, the records of its blocks, and the reports it places
(R82, R115, R168, R172, R184, R188, section 10.6). -/

namespace Sys2Proof.Machine

/-! ## Named values -/

/-- States of a station record (R17). -/
inductive RecordState where
  | empty | joining | present | lost
  deriving DecidableEq, Repr

/-- Station kinds (R17). -/
inductive Kind where
  | delegate | console
  deriving DecidableEq, Repr

/-- Lamp states (R17, section 11.4). -/
inductive Lamp where
  | off | requested | next | onAir | warning | muted | refused | standby | unplaced
  deriving DecidableEq, Repr

/-- Mic states (R76). -/
inductive Mic where
  | off | queued | onAir
  deriving DecidableEq, Repr

/-- Channel ids of the listening unit (R131). -/
inductive ChanId where
  | floor (room : RoomIx)
  | channel (chan : ChanIx)
  | feed (booth : BoothIx)
  deriving DecidableEq, Repr

/-- Frame clock sources (R1). -/
inductive ClockSource where
  | recovered | localOsc
  deriving DecidableEq, Repr

/-- Functions of a contact line, with their targets (R42). -/
inductive LineFunction where
  | unused
  | wall (w : WallIx)
  | override
  | roomMute (s : SecIx)
  deriving DecidableEq, Repr

/-- Polarities of a contact line (R42). -/
inductive Polarity where
  | activeLow | activeHigh
  deriving DecidableEq, Repr

/-- A wall's permission (R49). -/
inductive Permission where
  | auto | forceClosed | forceOpen
  deriving DecidableEq, Repr

/-- Floor modes (R57). -/
inductive FloorMode where
  | openFloor | replace | request
  deriving DecidableEq, Repr

/-- Floor language modes (R57). -/
inductive LanguageMode where
  | fixed | followSpeaker
  deriving DecidableEq, Repr

/-- Priority modes (R57). -/
inductive PriorityMode where
  | mute | clear
  deriving DecidableEq, Repr

/-- States of the changeover machine (R65). -/
inductive Phase where
  | steady | pending | fadeOut | swap | fadeIn
  deriving DecidableEq, Repr

/-- A booth's interlock (R108). -/
inductive Interlock where
  | lockout | takeover
  deriving DecidableEq, Repr

/-- The two outputs of a booth (R108). -/
inductive Output where
  | a | b
  deriving DecidableEq, Repr

/-- What a booth hears (R108, R113). -/
inductive BoothInput where
  | nothing
  | floor
  | relay (chan : ChanIx)
  deriving DecidableEq, Repr

/-- States of a language channel (R109). -/
inductive ChannelState where
  | dark | floorFollow | served | idle
  deriving DecidableEq, Repr

/-- States of directive assembly (R175). -/
inductive AssemblyState where
  | waitStart | kind | tag | length | payload | check
  deriving DecidableEq, Repr

/-- Result codes (R183, section 11.6). -/
inductive ResultCode where
  | ok | okClamped | badLength | badField | conflict | notFound | busy
  deriving DecidableEq, Repr

/-- Reasons and causes, in the order of their codes (section 11.6). -/
inductive Reason where
  | press | chair | auto | next | directive | merge | released | replaced | reclaimed | priority
  | time | silence | limit | lost | moved | noRoom | cancelled | poolFull | noSlot | empty
  | atLimit | mute | clear | swap | takeover | switch | dark | outputRemoved | unbound | noOutput
  | locked | console | floorLanguage | loss | spurFull | noAddress | noReply | spurDown | rejoin
  | rebound | holdElapsed | line | reassigned | check | length
  deriving DecidableEq, Repr

/-! ## Records -/

/-- A link's state with its fail run and good run (R4, R12). -/
structure Link where
  up : Bool
  failRun : Nat
  goodRun : Nat
  deriving DecidableEq, Repr

/-- What an addressed station command says (section 2.5). -/
inductive CommandBody where
  | assign (uid : Uid)
  | talk (slot : Option SlotIx)
  | tune (slot : Option SlotIx) (degraded : Bool)
  | lamp (lamp : Lamp)
  | poll
  deriving DecidableEq, Repr

/-- A station command with its destination: one station, or the RESYNC broadcast (R26). -/
inductive Command where
  | to (addr : Addr) (body : CommandBody)
  | resync
  deriving DecidableEq, Repr

/-- The command kinds a mark can stand for, in the order R29 rebuilds them. -/
inductive MarkKind where
  | talk | tune | lamp
  deriving DecidableEq, Repr

/-- A resolved channel with its fallback mark (R132). -/
structure Resolved where
  chan : ChanId
  fallback : Bool
  deriving DecidableEq, Repr

/-- A station record: the registry's fields (R17), the floor controller's (R76), the listening unit's (R132) and the
mix engine's (R160). `warning` is the delegate's warning period (R98). -/
structure Station where
  state : RecordState
  uid : Uid
  kind : Kind
  key : Bool
  spur : SpurIx
  sec : Option SecIx
  declared : Option Lang
  booth : Option (BoothIx × ConsoleIx)
  trim : Byte
  listen : Lang
  lamp : Lamp
  missed : Nat
  holdLeft : Nat
  mic : Mic
  talk : Option SlotIx
  stamp : Option Stamp
  held : Bool
  seconds : Nat
  subFrames : Nat
  warning : Bool
  silence : Nat
  resolved : Option Resolved
  listenSlot : Option SlotIx
  degraded : Bool
  envelope : Nat
  deriving DecidableEq, Repr

/-- A seat binding (R19). -/
structure Binding where
  uid : Uid
  addr : Addr
  sec : Option SecIx
  declared : Option Lang
  booth : Option (BoothIx × ConsoleIx)
  deriving DecidableEq, Repr

/-- An entry of a spur's assign list (R22). -/
structure AssignEntry where
  addr : Addr
  uid : Uid
  awaiting : Bool
  deriving DecidableEq, Repr

/-- A downstream spur frame as sent (R7, section 11.3). -/
structure SpurOut where
  listen : Tab 16 Sample
  window : Option Command
  threshold : Nat
  deriving DecidableEq, Repr

/-- An upstream trunk frame as sent (R5, section 11.2): at most four lane bytes, from position 0 on. -/
structure TrunkOut where
  floors : Tab 16 Sample
  channels : Tab 12 Sample
  bytes : List Byte
  ready : Bool
  deriving DecidableEq, Repr

/-- A spur: its link and event window (Chapter 1), its station commands and poll timer (Chapter 2), its talk-slot
table (R77) and its listen-slot table (R137). -/
structure Spur where
  link : Link
  threshold : Nat
  badCount : Nat
  sent : Option Command
  remembered : Option Command
  queue : List Command
  hold : Option Command
  marks : List (Addr × MarkKind)
  retry : List Command
  assign : List AssignEntry
  pollRequest : Option Addr
  pollTimer : Nat
  lastPolled : Option Addr
  talkSlots : Tab 16 (Option Addr)
  listenSlots : Tab 16 (Option (ChanId × Nat))
  unserved : List ChanId
  talkIn : Tab 16 Sample
  out : SpurOut
  deriving DecidableEq, Repr

/-- A contact line's entry (R42). `level` is the electrical reading it keeps between the thresholds (section 1.9);
`changeDue` and `rereadDue` say that the last sample made the step due (R43). -/
structure Line where
  fn : LineFunction
  polarity : Polarity
  debounce : Byte
  lastRaw : Bool
  count : Nat
  debounced : Bool
  reread : Bool
  level : Bool
  changeDue : Bool
  rereadDue : Bool
  deriving DecidableEq, Repr

/-- A wall (R49). Effectively open is computed from it by R51. -/
structure Wall where
  inUse : Bool
  secA : Option SecIx
  secB : Option SecIx
  contact : Option LineIx
  permission : Permission
  isOpen : Bool
  changed : Bool
  deriving DecidableEq, Repr

/-- A room map: for each section a room id or none (R56). -/
abbrev RoomMap := Tab 16 (Option RoomIx)

/-- A room record (R57). -/
structure Room where
  mode : FloorMode
  maxOpen : Nat
  autoAdvance : Bool
  speakLimit : Nat
  silenceTimeout : Nat
  silenceThreshold : Nat
  master : Byte
  inject : Option InjectIx
  injectCode : Byte
  language : Lang
  languageMode : LanguageMode
  chair : Option Addr
  priorityMode : PriorityMode
  deriving DecidableEq, Repr

/-- The fields of a room record that a directive or a profile holds, each present or absent (R60, R62). -/
structure RoomFields where
  mode : Option FloorMode
  maxOpen : Option Nat
  autoAdvance : Option Bool
  speakLimit : Option Nat
  silenceTimeout : Option Nat
  silenceThreshold : Option Nat
  master : Option Byte
  inject : Option (Option InjectIx)
  injectCode : Option Byte
  language : Option Lang
  languageMode : Option LanguageMode
  chair : Option (Option Addr)
  priorityMode : Option PriorityMode
  deriving DecidableEq, Repr

/-- A profile entry in use (R60). -/
structure Profile where
  secs : SecSet
  fields : RoomFields
  deriving DecidableEq, Repr

/-- An entry of the request pool (R78). -/
structure PoolEntry where
  addr : Addr
  stamp : Stamp
  reentry : Bool
  deriving DecidableEq, Repr

/-- A booth (R108). -/
structure Booth where
  anchor : Option SecIx
  comprehension : List Lang
  outA : Option ChanIx
  outB : Option ChanIx
  interlock : Interlock
  onA : Option Addr
  onB : Option Addr
  room : Option RoomIx
  direct : Bool
  input : BoothInput
  noRelay : Bool
  deriving DecidableEq, Repr

/-- A language channel (R109). -/
structure Channel where
  code : Lang
  room : Option RoomIx
  state : ChannelState
  parked : Bool
  deriving DecidableEq, Repr

/-- The overrun record, when it is not empty (R179). -/
structure Overrun where
  count : Nat
  first : Byte
  latest : Byte
  deriving DecidableEq, Repr

/-- An assembled directive as the directive queue holds it (R179). -/
structure Directive where
  kind : Byte
  tag : Byte
  payload : List Byte
  deriving DecidableEq, Repr

/-- The assembly buffer (R175). `taken` counts the bytes of the directive taken so far, the start byte included,
which R177 reports. -/
structure Assembly where
  state : AssemblyState
  kind : Byte
  tag : Byte
  length : Byte
  payload : List Byte
  expected : Nat
  gap : Nat
  taken : Nat
  deriving DecidableEq, Repr

/-! ## Reports -/

/-- Events of STATION reports (section 10.6), with what each placing rule has them carry: JOIN_REFUSED the uid and the
spur with cause SPUR_FULL only (R21). -/
inductive StationReport where
  | joined (addr : Addr) (uid : Uid) (kind : Kind) (spur : SpurIx) (sec : Option SecIx)
  | joinRefused (cause : Reason) (joiner : Option (Uid × SpurIx))
  | bindingConflict (uid : Uid) (spur : SpurIx) (addr : Addr)
  | joinFailed (uid : Uid) (spur : SpurIx)
  | lost (addr : Addr) (uid : Uid) (spur : SpurIx) (cause : Reason)
  | expired (addr : Addr) (uid : Uid) (cause : Reason)
  | stray (spur : SpurIx) (addr : Addr) (uid : Uid)
  | spurDown (spur : SpurIx)
  | spurUp (spur : SpurIx)
  | listenShortage (spur : SpurIx) (ids : List ChanId)
  deriving DecidableEq, Repr

/-- Transition kinds of FLOOR reports (R82). -/
inductive FloorKind where
  | granted | queued | closed | removed | requestRefused | nextRefused | held | heldCleared
  | priorityOn | priorityOff | chairChanged
  deriving DecidableEq, Repr

/-- A FLOOR report (R82): `language` stands for GRANTED, `chairs` (former and new) for CHAIR_CHANGED. -/
structure FloorReport where
  kind : FloorKind
  addr : Option Addr
  room : Option RoomIx
  reason : Reason
  language : Option Lang
  chairs : Option (Option Addr × Option Addr)
  deriving DecidableEq, Repr

/-- A WALL report (R53); `source` is the contact line, or none for DIRECTIVE. -/
structure WallReport where
  wall : WallIx
  isOpen : Bool
  source : Option LineIx
  inUse : Bool
  permission : Permission
  effOpen : Bool
  deriving DecidableEq, Repr

/-- Where a rebuilt record started (R59, R73). -/
inductive Origin where
  | claimed
  | copied (source : RoomIx)
  | defaults
  deriving DecidableEq, Repr

/-- MAP reports (R73). -/
inductive MapReport where
  | pending (settle : Nat) (rooms : List (RoomIx × SecSet))
  | cancelled
  | fadeOut (ids : List RoomIx)
  | room (id : RoomIx) (secs : SecSet) (origin : Origin) (profile : Option EntryIx) (chair : Option Addr)
      (dropped : Bool) (direct : Bool)
  | closed (id : RoomIx) (direct : Bool)
  | complete
  deriving DecidableEq, Repr

/-- BOOTH reports (R115). -/
inductive BoothReport where
  | consoleOn (booth : BoothIx) (console : ConsoleIx) (addr : Addr) (out : Output) (spur : SpurIx)
      (slot : Option SlotIx) (cause : Reason)
  | consoleOff (booth : BoothIx) (console : ConsoleIx) (addr : Addr) (out : Output) (reason : Reason)
  | consoleRefused (seat : Option (BoothIx × ConsoleIx)) (addr : Addr) (out : Output) (reason : Reason)
  | channel (chan : ChanIx) (code : Lang) (owner : Option BoothIx) (room : Option RoomIx) (state : ChannelState)
      (parked : Bool) (cause : Reason)
  | input (booth : BoothIx) (room : Option RoomIx) (direct : Bool) (input : BoothInput) (noRelay : Bool)
      (cause : Reason)
  deriving DecidableEq, Repr

/-- Kinds of OVERRIDE reports on the source set (R168). -/
inductive OverrideKind where
  | start | stop | changed
  deriving DecidableEq, Repr

/-- OVERRIDE reports (R168, R172). -/
inductive OverrideReport where
  | sources (kind : OverrideKind) (cause : Reason) (line : Option LineIx) (source : Bool) (lines : List LineIx)
      (code : Byte)
  | mute (on : Bool) (sec : SecIx) (room : Option RoomIx) (line : LineIx) (cause : Reason) (lines : List LineIx)
  deriving DecidableEq, Repr

/-- LANE reports (R4, R188). -/
inductive LaneReport where
  | trunkLost
  | trunkRestored (seconds : Nat)
  | frameError (cause : Reason)
  | frameTimeout (taken : Nat) (tag : Option Byte)
  | directiveOverrun (count : Nat) (first latest : Byte)
  deriving DecidableEq, Repr

/-- What PART_QUERY reads beside the fixed identity and capacities (R189). -/
structure PartData where
  trunkUp : Bool
  clock : ClockSource
  failRun : Nat
  goodRun : Nat
  phase : Phase
  flag : Bool
  overrideActive : Bool
  source : Bool
  code : Byte
  lines : List LineIx
  reportFill : Nat
  directiveFill : Nat
  overrunEmpty : Bool
  stray : Nat
  deriving DecidableEq, Repr

/-- What ROOM_QUERY reads (R64). -/
structure RoomData where
  active : Bool
  secs : SecSet
  affected : Bool
  record : Room
  delegates : Nat
  chairOnAir : Bool
  queued : Nat
  priority : Bool
  target : Nat
  applied : Nat
  clip : Nat
  deriving DecidableEq, Repr

/-- What MAP_QUERY reads (R74). -/
structure MapData where
  phase : Phase
  flag : Bool
  settle : Nat
  settleCount : Option Nat
  secs : List (Bool × Option RoomIx)
  shadow : Option (List (Option RoomIx))
  affected : Option (List RoomIx)
  deriving DecidableEq, Repr

/-- One speaker of a QUEUE_QUERY (R97). -/
structure SpeakerData where
  addr : Addr
  spur : SpurIx
  slot : Option SlotIx
  chair : Bool
  muted : Bool
  seconds : Nat
  warning : Bool
  deriving DecidableEq, Repr

/-- What QUEUE_QUERY reads (R97). -/
structure QueueData where
  active : Bool
  underChangeover : Bool
  speakers : List SpeakerData
  queue : List (Addr × SpurIx × Bool)
  held : List Addr
  delegates : Nat
  priority : Bool
  poolFill : Nat
  deriving DecidableEq, Repr

/-- One output of a BOOTH_QUERY (R129). -/
structure OutputData where
  chan : ChanIx
  code : Lang
  state : ChannelState
  parked : Bool
  console : Option (Addr × Option ConsoleIx)
  deriving DecidableEq, Repr

/-- What SPUR_QUERY reads (R15). -/
structure SpurData where
  up : Bool
  threshold : Nat
  failRun : Nat
  goodRun : Nat
  bad : Nat
  waiting : Nat
  holdTaken : Bool
  stations : Nat
  deriving DecidableEq, Repr

/-- The data of a RESULT (R184): what the owning rule of each directive gives, or nothing. -/
inductive ResultData where
  | nothing
  | part (d : PartData)
  | restart (tags : List Byte) (reports : Nat) (overrun : Option Overrun)
  | timing (poll hold : Option Nat)
  | station (rec : Station) (binding : Option Uid)
  | walls (walls : List (Wall × Bool))
  | wall (wall : Wall) (effOpen : Bool)
  | line (line : Line)
  | profile (entry : Profile)
  | room (record : Room)
  | roomState (d : RoomData)
  | map (d : MapData)
  | floor (addrs : List Addr)
  | queue (d : QueueData)
  | booth (booth : Booth)
  | boothState (booth : Booth) (outA outB : Option OutputData) (relayed : List BoothIx)
  | channel (code : Lang) (owner : Option BoothIx) (room : Option RoomIx) (state : ChannelState) (parked : Bool)
  | announce (source : Bool) (code : Byte) (active : Bool) (lines : List LineIx)
  | spur (d : SpurData)
  deriving DecidableEq, Repr

/-- A report of any block (section 10.6). -/
inductive Report where
  | result (kind tag : Byte) (code : ResultCode) (data : ResultData)
  | station (r : StationReport)
  | floor (r : FloorReport)
  | wall (r : WallReport)
  | map (r : MapReport)
  | booth (r : BoothReport)
  | override (r : OverrideReport)
  | lane (r : LaneReport)
  deriving DecidableEq, Repr

/-- An entry of the report queue: a report whole, and its "later reports lost" mark (R186). -/
structure QueuedReport where
  report : Report
  lost : Bool
  deriving DecidableEq, Repr

end Sys2Proof.Machine
end

