-- ==== Sys2Proof/Machine/State.lean ====
section
/-! DEFINITION. The state of the part, block by block, and the state after power-on (R40, R42, R48, R49, R56, R57,
R60, R65, R107, R108, R109, R130, R144, R163, R174, R191). Plain data throughout. -/

namespace Sys2Proof.Machine

/-- The trunk interface (Chapter 1). `started` says that the first frame period after power-on has begun (R2);
`epochDue` that the epoch counter has wrapped and EPOCH_BOUNDARY has not been taken (the model's own field, log 2). -/
structure Trunk where
  link : Link
  clock : ClockSource
  epoch : Nat
  started : Bool
  epochDue : Bool
  downFrames : Nat
  inject : Tab 4 Sample
  out : TrunkOut
  deriving DecidableEq, Repr

/-- The room map unit (Chapter 4). `affected` and `met` are sets of ids. -/
structure MapUnit where
  live : RoomMap
  phase : Phase
  shadow : Option RoomMap
  settleCount : Nat
  affected : Tab 16 Bool
  met : Tab 16 Bool
  flag : Bool
  settle : Nat
  rooms : Tab 16 Room
  profiles : Tab 32 (Option Profile)
  deriving DecidableEq, Repr

/-- The floor controller (Chapter 5). `freed` and `named` collect, during one event, the spurs freed and the rooms
closing or named for its advance pass (R77, R89, R90); they are empty between events. -/
structure FloorUnit where
  pool : List PoolEntry
  requestStamp : Stamp
  grantStamp : Stamp
  priority : Tab 16 Bool
  freed : List SpurIx
  named : List RoomIx
  deriving DecidableEq, Repr

/-- The mix engine (Chapter 8), with the samples its last computation formed. -/
structure MixUnit where
  target : Tab 16 Nat
  applied : Tab 16 Nat
  clip : Tab 16 Nat
  floors : Tab 16 Sample
  channels : Tab 12 Sample
  feeds : Tab 8 Sample
  deriving DecidableEq, Repr

/-- The override logic's own state (Chapter 9). -/
structure OverrideUnit where
  source : Bool
  code : Byte
  deriving DecidableEq, Repr

/-- The control lane unit (Chapter 10). `sent` counts the bytes of the oldest report already sent: it is in
transmission when `sent` is not 0 (R187). -/
structure LaneUnit where
  assembly : Assembly
  stray : Nat
  directives : List Directive
  overrun : Option Overrun
  reports : List QueuedReport
  sent : Nat
  reserved : Bool
  deriving DecidableEq, Repr

/-- The whole part. `pending` is the queue of commands that wait, and `handed` the lane bytes and station events that
a received frame has handed on and that have not been taken (both the model's own, logs 1 and 2). -/
structure State where
  pending : List Instr
  handed : List Instr
  trunk : Trunk
  spurs : Tab 4 Spur
  stations : Tab 192 Station
  bindings : List Binding
  pollSpacing : Nat
  lostHold : Nat
  lines : Tab 24 Line
  sections : Tab 16 Bool
  walls : Tab 24 Wall
  map : MapUnit
  floor : FloorUnit
  booths : Tab 8 Booth
  channels : Tab 12 Channel
  mix : MixUnit
  override : OverrideUnit
  lane : LaneUnit
  deriving DecidableEq, Repr

/-- The spec names no condition in which the part stops, so there is no fault: the type is empty, and no command can
answer one. -/
inductive Fault where
  deriving DecidableEq, Repr

/-- Why a command could have no meaning. -/
inductive Refusal where
  /-- Raised by exec's arm of a command that has no meaning yet, and by nothing else; safe, since no state follows.
  No arm of this model raises it. -/
  | notModelled (mnemonic : String)
  deriving DecidableEq, Repr

/-! ## Power-on values -/

/-- A link at power-on: DOWN, both counts 0 (R4, R12). -/
def Link.initial : Link := { up := false, failRun := 0, goodRun := 0 }

/-- The fresh values of R17 with the idle values of R18, in a record that holds no station. DESIGN CHOICE (log 4):
the fields of an EMPTY record, which R17 says are not read. -/
def Station.initial : Station where
  state := .empty
  uid := 0
  kind := .delegate
  key := false
  spur := 0
  sec := none
  declared := none
  booth := none
  trim := 200
  listen := 0
  lamp := .off
  missed := 0
  holdLeft := 0
  mic := .off
  talk := none
  stamp := none
  held := false
  seconds := 0
  subFrames := 0
  warning := false
  silence := 0
  resolved := none
  listenSlot := none
  degraded := false
  envelope := 0

/-- A spur at power-on (R10, R12, R15, R40, R107, R144). -/
def Spur.initial : Spur where
  link := .initial
  threshold := 0
  badCount := 0
  sent := none
  remembered := none
  queue := []
  hold := none
  marks := []
  retry := []
  assign := []
  pollRequest := none
  pollTimer := 0
  lastPolled := none
  talkSlots := .fill 16 none
  listenSlots := .fill 16 none
  unserved := []
  talkIn := .fill 16 0
  out := { listen := .fill 16 0, window := none, threshold := 0 }

/-- A contact line at power-on (R42). DESIGN CHOICE (log 5): last raw before the first sample, and the reading of a
line that has only its pull-up. -/
def Line.initial : Line where
  fn := .unused
  polarity := .activeLow
  debounce := 50
  lastRaw := false
  count := 0
  debounced := false
  reread := false
  level := true
  changeDue := false
  rereadDue := false

/-- A wall at power-on (R49). -/
def Wall.initial : Wall where
  inUse := false
  secA := none
  secB := none
  contact := none
  permission := .auto
  isOpen := false
  changed := false

/-- The defaults of a room record (R57). -/
def Room.initial : Room where
  mode := .openFloor
  maxOpen := 4
  autoAdvance := true
  speakLimit := 0
  silenceTimeout := 0
  silenceThreshold := 50
  master := 200
  inject := none
  injectCode := 200
  language := 0
  languageMode := .fixed
  chair := none
  priorityMode := .mute

/-- A booth at power-on (R108). -/
def Booth.initial : Booth where
  anchor := none
  comprehension := []
  outA := none
  outB := none
  interlock := .lockout
  onA := none
  onB := none
  room := none
  direct := false
  input := .nothing
  noRelay := false

/-- A language channel at power-on (R109). -/
def Channel.initial : Channel where
  code := 0
  room := none
  state := .dark
  parked := false

/-- The assembly buffer at power-on (R175). -/
def Assembly.initial : Assembly where
  state := .waitStart
  kind := 0
  tag := 0
  length := 0
  payload := []
  expected := 0
  gap := 0
  taken := 0

/-- The part after power-on. DESIGN CHOICE (logs 3 and 6): the frames and samples of a part that has sent and computed
none are zero. -/
def State.reset : State where
  pending := []
  handed := []
  trunk := {
    link := .initial, clock := .localOsc, epoch := 0, started := false, epochDue := false, downFrames := 0,
    inject := .fill 4 0,
    out := { floors := .fill 16 0, channels := .fill 12 0, bytes := [], ready := false } }
  spurs := .fill 4 .initial
  stations := .fill 192 .initial
  bindings := []
  pollSpacing := 480
  lostHold := 60
  lines := .fill 24 .initial
  sections := .fill 16 true
  walls := .fill 24 .initial
  map := {
    live := .ofFn some, phase := .steady, shadow := none, settleCount := 0, affected := .fill 16 false,
    met := .fill 16 false, flag := false, settle := 2, rooms := .fill 16 .initial, profiles := .fill 32 none }
  floor := {
    pool := [], requestStamp := 0, grantStamp := 0, priority := .fill 16 false, freed := [], named := [] }
  booths := .fill 8 .initial
  channels := .fill 12 .initial
  mix := {
    target := .fill 16 0, applied := .fill 16 0, clip := .fill 16 0, floors := .fill 16 0,
    channels := .fill 12 0, feeds := .fill 8 0 }
  override := { source := false, code := 200 }
  lane := {
    assembly := .initial, stray := 0, directives := [], overrun := none, reports := [], sent := 0,
    reserved := false }

end Sys2Proof.Machine
end

