-- ==== Sys2Proof/Machine/Ops.lean ====
section
/-! DEFINITION. The operations every block shares: reading and writing one entry of a table, placing a report (R186),
offering a station command (R25 to R29), and claiming and freeing a talk slot (R77). -/

namespace Sys2Proof.Machine

/-! ## One entry of a table -/

/-- The station record of an address. -/
def State.station (s : State) (a : Addr) : Station := s.stations.get a

/-- A station record changed. -/
def State.updStation (s : State) (a : Addr) (f : Station → Station) : State :=
  { s with stations := s.stations.modify a f }

/-- A spur. -/
def State.spur (s : State) (p : SpurIx) : Spur := s.spurs.get p

/-- A spur changed. -/
def State.updSpur (s : State) (p : SpurIx) (f : Spur → Spur) : State :=
  { s with spurs := s.spurs.modify p f }

/-- A room record. -/
def State.room (s : State) (r : RoomIx) : Room := s.map.rooms.get r

/-- A room record changed. -/
def State.updRoom (s : State) (r : RoomIx) (f : Room → Room) : State :=
  { s with map := { s.map with rooms := s.map.rooms.modify r f } }

/-- A contact line. -/
def State.line (s : State) (l : LineIx) : Line := s.lines.get l

/-- A contact line changed. -/
def State.updLine (s : State) (l : LineIx) (f : Line → Line) : State :=
  { s with lines := s.lines.modify l f }

/-- A wall. -/
def State.wall (s : State) (w : WallIx) : Wall := s.walls.get w

/-- A wall changed. -/
def State.updWall (s : State) (w : WallIx) (f : Wall → Wall) : State :=
  { s with walls := s.walls.modify w f }

/-- A booth. -/
def State.booth (s : State) (b : BoothIx) : Booth := s.booths.get b

/-- A booth changed. -/
def State.updBooth (s : State) (b : BoothIx) (f : Booth → Booth) : State :=
  { s with booths := s.booths.modify b f }

/-- A language channel. -/
def State.channel (s : State) (l : ChanIx) : Channel := s.channels.get l

/-! ## Reports -/

/-- The mark set on the newest report of the queue (R186). -/
def markNewest : List QueuedReport → List QueuedReport
  | [] => []
  | [q] => [{ q with lost := true }]
  | q :: q' :: qs => q :: markNewest (q' :: qs)

/-- The entries of the report queue that a report other than the RESULT may use: one is reserved while a directive is
executed (R182, R186). -/
def LaneUnit.reportRoom (l : LaneUnit) : Nat :=
  if l.reserved then Config.reportQueueSize - 1 else Config.reportQueueSize

/-- Placing a report: appended when an entry is free to it, else discarded with the mark set on the newest (R186). -/
def LaneUnit.place (r : Report) (l : LaneUnit) : LaneUnit :=
  if l.reports.length < l.reportRoom then { l with reports := l.reports ++ [{ report := r, lost := false }] }
  else { l with reports := markNewest l.reports }

/-- A block places a report (R186). -/
def State.place (s : State) (r : Report) : State := { s with lane := s.lane.place r }

/-- A list of reports placed in order. -/
def State.placeAll (s : State) (rs : List Report) : State := rs.foldl State.place s

/-! ## The station command queue -/

/-- The kind a mark of this command has (R26); ASSIGN and POLL are never offered to the queue (R25). -/
def CommandBody.markKind : CommandBody → Option MarkKind
  | .assign _ => none
  | .talk _ => some .talk
  | .tune _ _ => some .tune
  | .lamp _ => some .lamp
  | .poll => none

/-- The order in which R29 rebuilds the marks of one station. -/
def MarkKind.rank : MarkKind → Nat
  | .talk => 0
  | .tune => 1
  | .lamp => 2

/-- Marks are kept lowest address first, and for one station TALK before TUNE before LAMP (R29). -/
def markBefore (x y : Addr × MarkKind) : Bool :=
  x.1 < y.1 || (x.1 == y.1 && x.2.rank < y.2.rank)

/-- A mark added to a mark set, which holds at most one for each station and kind (R26). -/
def addMark (m : Addr × MarkKind) (ms : List (Addr × MarkKind)) : List (Addr × MarkKind) :=
  if m ∈ ms then ms else insertBy markBefore m ms

/-- A waiting command of one kind for one station (R27). -/
def Command.isFor (a : Addr) (k : MarkKind) : Command → Bool
  | .to a' b => a' == a && b.markKind == some k
  | .resync => false

/-- A command addressed to a station. -/
def Command.isTo (a : Addr) : Command → Bool
  | .to a' _ => a' == a
  | .resync => false

/-- The queue is open when the overflow hold is empty and no mark stands (R26). -/
def Spur.isOpen (p : Spur) : Bool := p.hold.isNone && p.marks.isEmpty

/-- The first LAMP command of a list taken out, with its station. -/
def takeFirstLamp : List Command → Option (Addr × List Command)
  | [] => none
  | .to a (.lamp _) :: cs => some (a, cs)
  | c :: cs => (takeFirstLamp cs).map fun r => (r.1, c :: r.2)

/-- The newest LAMP entry of a queue taken out, the later entries closing up behind it (R28). -/
def takeNewestLamp (q : List Command) : Option (Addr × List Command) :=
  (takeFirstLamp q.reverse).map fun r => (r.1, r.2.reverse)

/-- A TALK, TUNE or LAMP against the waiting commands of its spur: coalesced or appended (R27), or by R28 a LAMP
displaced, the overflow hold taken, or a mark set. -/
def Spur.offer (a : Addr) (b : CommandBody) (p : Spur) : Spur :=
  match b.markKind with
  | none => p
  | some k =>
    if p.queue.any (Command.isFor a k) then
      { p with queue := p.queue.map fun c => if c.isFor a k then .to a b else c }
    else if p.hold.any (Command.isFor a k) then { p with hold := some (.to a b) }
    else if p.isOpen then
      if p.queue.length < Config.commandQueueSize then { p with queue := p.queue ++ [.to a b] }
      else match takeNewestLamp p.queue with
        | some (l, rest) => { p with queue := rest ++ [.to a b], marks := addMark (l, .lamp) p.marks }
        | none => { p with hold := some (.to a b) }
    else { p with marks := addMark (a, k) p.marks }

/-- A marked command rebuilt from the record (R26, R29). -/
def rebuildCommand (stations : Tab 192 Station) (m : Addr × MarkKind) : Command :=
  let r := stations.get m.1
  match m.2 with
  | .talk => .to m.1 (.talk r.talk)
  | .tune => .to m.1 (.tune r.listenSlot r.degraded)
  | .lamp => .to m.1 (.lamp r.lamp)

/-- One free entry filled: from the overflow hold, else from the first mark (R29). -/
def Spur.fillOne (stations : Tab 192 Station) (p : Spur) : Spur :=
  match p.hold, p.marks with
  | some c, _ => { p with queue := p.queue ++ [c], hold := none }
  | none, m :: ms => { p with queue := p.queue ++ [rebuildCommand stations m], marks := ms }
  | none, [] => p

/-- Free entries filled one after another, at most n of them (R29). -/
def Spur.fillFree (stations : Tab 192 Station) : Nat → Spur → Spur
  | 0, p => p
  | n + 1, p =>
    if p.queue.length < Config.commandQueueSize && !p.isOpen then (p.fillOne stations).fillFree stations n else p

/-- The head of the queue leaves it, and its entry is filled (R29, R30). -/
def Spur.dropHead (stations : Tab 192 Station) (p : Spur) : Spur :=
  { p with queue := p.queue.tail }.fillOne stations

/-- Everything the queues hold for a station that stops being PRESENT leaves them, and the free entries are filled
(R29; R34 step 2 with its retry-list and assign-list entries and its poll request). -/
def Spur.removeStation (stations : Tab 192 Station) (a : Addr) (p : Spur) : Spur :=
  { p with
    queue := p.queue.filter (fun c => !c.isTo a)
    hold := if p.hold.any (Command.isTo a) then none else p.hold
    marks := p.marks.filter (fun m => m.1 != a)
    retry := p.retry.filter (fun c => !c.isTo a)
    assign := p.assign.filter (fun e => e.addr != a)
    pollRequest := if p.pollRequest == some a then none else p.pollRequest }.fillFree stations Config.commandQueueSize

/-- Everything a spur has waiting is cleared (R14, R41); what is kept is written by the caller. -/
def Spur.clearQueue (p : Spur) : Spur := { p with queue := [.resync], hold := none, marks := [] }

/-- The station's lamp field takes the state of a LAMP offered for it (R17, R25). -/
def Station.noteLamp (b : CommandBody) (r : Station) : Station :=
  match b with
  | .lamp l => { r with lamp := l }
  | _ => r

/-- A TALK, TUNE or LAMP offered for a station: dropped unless its record is PRESENT (R25). -/
def State.offer (s : State) (a : Addr) (b : CommandBody) : State :=
  if (s.station a).state = .present then
    (s.updStation a (Station.noteLamp b)).updSpur (s.station a).spur (Spur.offer a b)
  else s

/-- A LAMP offered for a station. -/
def State.offerLamp (s : State) (a : Addr) (l : Lamp) : State := s.offer a (.lamp l)

/-! ## Talk slots -/

/-- The lowest free talk slot of a spur (R77). -/
def Spur.freeTalk (p : Spur) : Option SlotIx := lowestFin 16 fun k => (p.talkSlots.get k).isNone

/-- Whether a spur has a free talk slot. -/
def State.hasFreeTalk (s : State) (p : SpurIx) : Bool := (s.spur p).freeTalk.isSome

/-- A claim (R77): the lowest free slot of the station's spur, written in the table and in the record, whose envelope
starts from 0 (R161); TALK with the slot is offered. A station that holds a slot, or a full table, claims nothing. -/
def State.claim (s : State) (a : Addr) : State :=
  let r := s.station a
  match r.talk, (s.spur r.spur).freeTalk with
  | none, some k =>
    ((s.updSpur r.spur fun p => { p with talkSlots := p.talkSlots.set k (some a) }).updStation a
      fun r => { r with talk := some k, envelope := 0 }).offer a (.talk (some k))
  | _, _ => s

/-- A free (R77): the slot and the record's field cleared, the envelope 0 (R161), and TALK with none offered. -/
def State.free (s : State) (a : Addr) : State :=
  let r := s.station a
  match r.talk with
  | none => s
  | some k =>
    ((s.updSpur r.spur fun p => { p with talkSlots := p.talkSlots.set k none }).updStation a
      fun r => { r with talk := none, envelope := 0 }).offer a (.talk none)

end Sys2Proof.Machine
end

