-- ==== Sys2Proof/Machine/Flags.lean ====
section
/-! DEFINITION. What the part derives from its tables and never stores a second time: the override condition and mute
standings (R165, R172), effective openness (R51), rooms, chairs, speaker lists and queues (R56, R79, R80), and the
lamps of delegates and consoles (R81, R116). -/

namespace Sys2Proof.Machine

/-! ## Lines and walls -/

/-- The contact lines that are active override sources (R165, R166), ascending as R167 and R168 list them. -/
def State.overrideLines (s : State) : List LineIx :=
  finsWhere 24 fun l => (s.line l).fn == .override && (s.line l).debounced

/-- Override is active while at least one of its sources stands (R165). -/
def State.overrideActive (s : State) : Bool :=
  s.override.source || !s.overrideLines.isEmpty

/-- The ROOM_MUTE lines active for a section (R172). A report is placed when the standing changes, so MUTE_ON carries one
of them and MUTE_OFF none, and their order is not at issue. -/
def State.muteLines (s : State) (sec : SecIx) : List LineIx :=
  finsWhere 24 fun l => (s.line l).fn == .roomMute sec && (s.line l).debounced

/-- A mute stands for a section while one of its ROOM_MUTE lines is active (R172). -/
def State.muteStands (s : State) (sec : SecIx) : Bool := !(s.muteLines sec).isEmpty

/-- A section is in service (R48); none is not. -/
def State.enabled (s : State) (sec : Option SecIx) : Bool :=
  match sec with
  | some i => s.sections.get i
  | none => false

/-- A wall is effectively open (R51). -/
def State.effOpen (s : State) (w : WallIx) : Bool :=
  let x := s.wall w
  x.inUse && s.enabled x.secA && s.enabled x.secB &&
    match x.permission with
    | .forceOpen => true
    | .forceClosed => false
    | .auto => x.isOpen

/-! ## Rooms -/

/-- The section set a map gives a room id (R56). -/
def sectionSet (m : RoomMap) (r : RoomIx) : SecSet :=
  (finsWhere 16 fun i => m.get i == some r).foldl (fun acc i => acc ||| (BitVec.twoPow 16 i.val)) 0

/-- A room id is ACTIVE in a map when the map gives it a section (R56). -/
def activeIn (m : RoomMap) (r : RoomIx) : Bool := (lowestFin 16 fun i => m.get i == some r).isSome

/-- A room id is ACTIVE in the live map (R56). -/
def State.active (s : State) (r : RoomIx) : Bool := activeIn s.map.live r

/-- The live room of a section, or none (R56). -/
def State.secRoom (s : State) (sec : Option SecIx) : Option RoomIx := sec.bind fun i => s.map.live.get i

/-- A station's room: the live room of the section in its record (R56, R76). -/
def State.stationRoom (s : State) (a : Addr) : Option RoomIx := s.secRoom (s.station a).sec

/-- A room is under changeover while its id is in the affected set (R76). -/
def State.underChangeover (s : State) (r : RoomIx) : Bool := s.map.affected.get r

/-- The force on a room's target code: from the entry to FADE_OUT to the swap (R68, R69). -/
def State.forced (s : State) (r : RoomIx) : Bool := s.map.phase == .fadeOut && s.map.affected.get r

/-- The seat section of an address (R57): its record's section, or for an EMPTY record that of a binding that names
the address. -/
def State.seatSection (s : State) (a : Addr) : Option SecIx :=
  if (s.station a).state == .empty then (s.bindings.find? fun b => b.addr == a).bind Binding.sec
  else (s.station a).sec

/-- The seat section of an address is in a room of a map. -/
def State.seatIn (s : State) (m : RoomMap) (r : RoomIx) (a : Addr) : Bool :=
  match s.seatSection a with
  | some i => m.get i == some r
  | none => false

/-- A delegate station is its room's chair when the room's record names its address (R80). -/
def State.isChair (s : State) (r : RoomIx) (a : Addr) : Bool :=
  (s.room r).chair == some a && (s.station a).kind == .delegate && s.stationRoom a == some r

/-! ## Floor -/

/-- Stamp a precedes stamp b (00, section 4.7). -/
def precedes (a b : Stamp) : Bool := 1 ≤ (b - a).toNat && (b - a).toNat ≤ 2 ^ 31 - 1

/-- The grant stamp by which a station is ordered. -/
def State.grantOrder (s : State) (a : Addr) : Stamp := ((s.station a).stamp).getD 0

/-- Addresses in grant order, oldest first. -/
def State.byGrant (s : State) (as : List Addr) : List Addr :=
  sortBy (fun a b => precedes (s.grantOrder a) (s.grantOrder b)) as

/-- The speaker list of a room: its ON_AIR stations in grant order (R80). -/
def State.speakers (s : State) (r : RoomIx) : List Addr :=
  s.byGrant (finsWhere 192 fun a => (s.station a).mic == .onAir && s.stationRoom a == some r)

/-- The ON_AIR delegates of a room other than its chair, in grant order. -/
def State.delegates (s : State) (r : RoomIx) : List Addr := (s.speakers r).filter fun a => !s.isChair r a

/-- The delegate count of a room (Chapter 5). -/
def State.delegateCount (s : State) (r : RoomIx) : Nat := (s.delegates r).length

/-- The order of a queue (R79): re-entry entries first by grant stamp, the others by request stamp. -/
def State.queueBefore (s : State) (x y : PoolEntry) : Bool :=
  match x.reentry, y.reentry with
  | true, false => true
  | false, true => false
  | true, true => precedes (s.grantOrder x.addr) (s.grantOrder y.addr)
  | false, false => precedes x.stamp y.stamp

/-- The queue of a room: the pool entries of the room's stations, in order (R79). -/
def State.queue (s : State) (r : RoomIx) : List PoolEntry :=
  sortBy s.queueBefore (s.floor.pool.filter fun e => s.stationRoom e.addr == some r)

/-- The head of a room's queue (R79). -/
def State.head (s : State) (r : RoomIx) : Option Addr := (s.queue r).head?.map PoolEntry.addr

/-- A station's floor lamp (R81): the first line that applies. -/
def State.floorLamp (s : State) (a : Addr) : Lamp :=
  let r := s.station a
  match r.mic with
  | .onAir =>
    if s.overrideActive then .muted
    else match s.stationRoom a with
      | none => .onAir
      | some k =>
        if s.isChair k a then .onAir
        else if s.floor.priority.get k then .muted
        else if r.warning then .warning
        else .onAir
  | .queued =>
    match s.stationRoom a with
    | none => .requested
    | some k => if s.head k == some a then .next else .requested
  | .off => .off

/-! ## Booths -/

/-- The channel of a booth's output. -/
def Booth.output (b : Booth) : Output → Option ChanIx
  | .a => b.outA
  | .b => b.outB

/-- The console standing on a booth's output. -/
def Booth.standing (b : Booth) : Output → Option Addr
  | .a => b.onA
  | .b => b.onB

/-- A booth's output field written. -/
def Booth.stand (b : Booth) (o : Output) (x : Option Addr) : Booth :=
  match o with
  | .a => { b with onA := x }
  | .b => { b with onB := x }

/-- The outputs in the order A before B. -/
def outputs : List Output := [.a, .b]

/-- The owning booth of a channel (R108). -/
def State.owner (s : State) (l : ChanIx) : Option BoothIx :=
  lowestFin 8 fun b => (s.booth b).outA == some l || (s.booth b).outB == some l

/-- Where a station stands on the air, if it does (R116). -/
def State.standsOn (s : State) (a : Addr) : Option (BoothIx × Output) :=
  (lowestFin 8 fun b => (s.booth b).onA == some a || (s.booth b).onB == some a).map fun b =>
    (b, if (s.booth b).onA == some a then .a else .b)

/-- A channel is distributed as a voice: SERVED and not parked (R109). -/
def State.voiced (s : State) (l : ChanIx) : Bool := (s.channel l).state == .served && !(s.channel l).parked

/-- A console's lamp (R116): the first line that applies. -/
def State.consoleLamp (s : State) (a : Addr) : Lamp :=
  match s.standsOn a with
  | none => .off
  | some (b, o) =>
    if s.overrideActive then .muted
    else match (s.booth b).output o with
      | some l => if s.voiced l then .onAir else .standby
      | none => .standby

/-! ## Lane -/

/-- Lane-ready (R181): the trunk UP and at least 2 entries of the directive queue free. -/
def State.laneReady (s : State) : Bool :=
  s.trunk.link.up && s.lane.directives.length + 2 ≤ Config.directiveQueueSize

end Sys2Proof.Machine
end

