-- ==== Sys2Proof/Machine/Listening.lean ====
section
/-! DEFINITION. The listening unit (Chapter 7): what a station resolves to (R133), a spur's demand (R137), its refresh
(R138 to R143), and the events that lead to one (R134 to R136, R142). -/

namespace Sys2Proof.Machine

/-- The channel of a code in a room that is neither DARK nor parked (R133). -/
def State.distributed (s : State) (r : RoomIx) (c : Lang) : Option ChanIx :=
  lowestFin 12 fun l =>
    (s.channel l).code == c && (s.channel l).room == some r && (s.channel l).state != .dark && !(s.channel l).parked

/-- A resolution (R133): the first line of its table that applies. A record that is not PRESENT resolves to nothing. -/
def State.resolve (s : State) (a : Addr) : Option Resolved :=
  let r := s.station a
  if r.state != .present then none
  else match r.kind with
  | .console =>
    match r.booth with
    | none => none
    | some (b, _) => if (s.booth b).room.isNone then none else some { chan := .feed b, fallback := false }
  | .delegate =>
    match s.stationRoom a with
    | none => none
    | some k =>
      if r.listen = 0 then some { chan := .floor k, fallback := false }
      else match s.distributed k r.listen with
        | some l => some { chan := .channel l, fallback := false }
        | none => some { chan := .floor k, fallback := true }

/-- A station's resolved channel written anew (R132, R133). -/
def State.resolveStation (s : State) (a : Addr) : State :=
  s.updStation a fun r => { r with resolved := s.resolve a }

/-- Every PRESENT station resolved again (R135, R136). -/
def State.resolveAll (s : State) : State :=
  { s with stations := .ofFn fun a =>
      if (s.station a).state == .present then { s.station a with resolved := s.resolve a } else s.station a }

/-- The PRESENT stations of a spur, ascending. -/
def State.presentOn (s : State) (p : SpurIx) : List Addr :=
  finsWhere 192 fun a => (s.station a).state == .present && (s.station a).spur == p

/-- Whether a PRESENT station counts toward the demand of a channel id (R137). -/
def State.demands (s : State) (a : Addr) (c : ChanId) : Bool :=
  let r := s.station a
  match c with
  | .feed _ => r.kind == .console && (r.resolved.map Resolved.chan) == some c
  | .floor k => r.kind == .delegate && s.stationRoom a == some k
  | .channel _ => r.kind == .delegate && (r.resolved.map Resolved.chan) == some c

/-- The count of a channel id in the demand of a spur's stations (R137). -/
def State.demand (s : State) (present : List Addr) (c : ChanId) : Nat :=
  (present.filter fun a => s.demands a c).length

/-- Every channel id, in the order in which new demands are placed (R139): feeds, floors, language channels. -/
def allChanIds : List ChanId :=
  (List.finRange 8).map .feed ++ (List.finRange 16).map .floor ++ (List.finRange 12).map .channel

/-- A listen-slot table (R137). -/
abbrev ListenTable := Tab 16 (Option (ChanId × Nat))

/-- The slot that holds a channel id. -/
def slotOf (t : ListenTable) (c : ChanId) : Option SlotIx :=
  lowestFin 16 fun k => (t.get k).map Prod.fst == some c

/-- Release and keep (R138): every held slot takes its id's count, and is freed when that is 0. -/
def releaseAndKeep (demand : ChanId → Nat) (t : ListenTable) : ListenTable :=
  t.map fun
    | some (c, _) => if demand c = 0 then none else some (c, demand c)
    | none => none

/-- New demands placed in order (R139): each in the lowest free slot, with what found none. -/
def placeDemands (demand : ChanId → Nat) : List ChanId → ListenTable → ListenTable × List ChanId
  | [], t => (t, [])
  | c :: cs, t =>
    match lowestFin 16 fun k => (t.get k).isNone with
    | some k => placeDemands demand cs (t.set k (some (c, demand c)))
    | none => (t, c :: cs)

/-- The listen slot and degraded flag of a station, from its resolved channel and the table (R140). -/
def State.tuning (s : State) (t : ListenTable) (a : Addr) : Option SlotIx × Bool :=
  match (s.station a).resolved with
  | none => (none, false)
  | some r =>
    match r.chan, slotOf t r.chan with
    | .feed _, some k => (some k, false)
    | .feed _, none => (none, true)
    | .floor _, some k => (some k, r.fallback)
    | .floor _, none => (none, true)
    | .channel _, some k => (some k, false)
    | .channel _, none =>
      match (s.stationRoom a).bind fun x => slotOf t (.floor x) with
      | some k => (some k, true)
      | none => (none, true)

/-- A station given its listen slot and degraded flag, with TUNE offered when either changed (R140, R141). -/
def tuneStation (t : ListenTable) (a : Addr) (s : State) : State :=
  let r := s.station a
  let (slot, deg) := s.tuning t a
  if r.listenSlot = slot ∧ r.degraded = deg then s
  else (s.updStation a fun r => { r with listenSlot := slot, degraded := deg }).offer a (.tune slot deg)

/-- A refresh of a spur (R134, R138 to R141, R143): its table, its stations' slots in ascending address, its unserved
set, and LISTEN_SHORTAGE when that set changed. -/
def State.refresh (s : State) (p : SpurIx) : State :=
  let present := s.presentOn p
  let demand := s.demand present
  let kept := releaseAndKeep demand (s.spur p).listenSlots
  let fresh := allChanIds.filter fun c => demand c != 0 && (slotOf kept c).isNone
  let (table, unserved) := placeDemands demand fresh kept
  let before := (s.spur p).unserved
  let s := s.updSpur p fun x => { x with listenSlots := table, unserved := unserved }
  let s := present.foldl (fun s a => tuneStation table a s) s
  if unserved = before then s else s.place (.station (.listenShortage p unserved))

/-- A station resolved and its spur refreshed (R134). -/
def State.listenTo (s : State) (a : Addr) : State :=
  (s.resolveStation a).refresh (s.station a).spur

/-- The spurs on which a PRESENT station's resolved channel differs between two states. -/
def changedSpurs (before after : State) : List SpurIx :=
  finsWhere 4 fun p => (after.presentOn p).any fun a => (before.station a).resolved != (after.station a).resolved

/-- The listening unit takes an evaluation (R135): every PRESENT station resolved again, and each spur where a
resolution changed refreshed, ascending. -/
def State.listenEvaluation (s : State) : State :=
  let s' := s.resolveAll
  (changedSpurs s s').foldl State.refresh s'

/-- The listening unit takes a swap (R136): every PRESENT station resolved again and all four spurs refreshed. -/
def State.listenSwap (s : State) : State :=
  (List.finRange 4).foldl State.refresh s.resolveAll

/-- The listening unit's loss rule (R142). -/
def State.listenLoss (s : State) (a : Addr) : State :=
  (s.updStation a fun r => { r with resolved := none, listenSlot := none, degraded := false }).refresh
    (s.station a).spur

end Sys2Proof.Machine
end

