-- ==== Sys2Proof/Machine/Interpretation.lean ====
section
/-! DEFINITION. The interpretation unit's derived fields and their evaluation (R110 to R116). -/

namespace Sys2Proof.Machine

/-- A booth's room (R110): the live room of its anchor section, while that section is in service. -/
def State.boothRoom (s : State) (b : BoothIx) : Option RoomIx :=
  if s.enabled (s.booth b).anchor then s.secRoom (s.booth b).anchor else none

/-- Booth rooms worked out anew (R114 step 1). -/
def State.evalBoothRooms (s : State) : State :=
  { s with booths := .ofFn fun b => { s.booth b with room := s.boothRoom b } }

/-- A console is on the air to the output of a booth that names a channel. -/
def Booth.voices (b : Booth) (l : ChanIx) : Bool :=
  (b.outA == some l && b.onA.isSome) || (b.outB == some l && b.onB.isSome)

/-- A channel's room and state (R109, R111), with booth rooms already worked out. -/
def State.channelStanding (s : State) (l : ChanIx) : Option RoomIx × ChannelState :=
  let code := (s.channel l).code
  match s.owner l with
  | none => (none, .dark)
  | some b =>
    match (s.booth b).room with
    | none => (none, .dark)
    | some r =>
      (some r,
        if code = 0 then .dark
        else if code = (s.room r).language then .floorFollow
        else if (s.booth b).voices l then .served
        else .idle)

/-- Channel rooms and states worked out anew (R114 step 2). -/
def State.evalChannels (s : State) : State :=
  { s with channels := .ofFn fun l =>
      { s.channel l with room := (s.channelStanding l).1, state := (s.channelStanding l).2 } }

/-- Two channels belong to one group: the same room and code, neither DARK (R112). -/
def State.grouped (s : State) (l m : ChanIx) : Bool :=
  (s.channel l).state != .dark && (s.channel m).state != .dark && (s.channel l).room == (s.channel m).room &&
    (s.channel l).code == (s.channel m).code

/-- The kept channel of a channel's group (R112): the lowest SERVED one, else the lowest. -/
def State.keptOf (s : State) (l : ChanIx) : Option ChanIx :=
  match lowestFin 12 fun m => s.grouped l m && (s.channel m).state == .served with
  | some m => some m
  | none => lowestFin 12 fun m => s.grouped l m

/-- Parked flags worked out anew (R114 step 3, R112). -/
def State.evalParking (s : State) : State :=
  { s with channels := .ofFn fun l =>
      { s.channel l with parked := (s.channel l).state != .dark && s.keptOf l != some l } }

/-- A booth is direct (R113). -/
def State.isDirect (s : State) (b : BoothIx) : Bool :=
  match (s.booth b).room with
  | none => false
  | some r => (s.room r).language != 0 && (s.booth b).comprehension.contains (s.room r).language

/-- A relay source for a booth (R113). -/
def State.isRelaySource (s : State) (b : BoothIx) (l : ChanIx) : Bool :=
  (s.channel l).room == (s.booth b).room && (s.booth b).room.isSome && s.voiced l &&
    (match s.owner l with
      | some o => o != b && s.isDirect o
      | none => false) &&
    (s.booth b).comprehension.contains (s.channel l).code

/-- A booth's input and no-relay flag (R113): the first line that applies. -/
def State.boothInput (s : State) (b : BoothIx) : BoothInput × Bool :=
  match (s.booth b).room with
  | none => (.nothing, false)
  | some r =>
    if s.isDirect b || (s.room r).language == 0 then (.floor, false)
    else match lowestFin 12 (s.isRelaySource b) with
      | some l => (.relay l, false)
      | none => (.floor, true)

/-- Direct flags, inputs and no-relay flags worked out anew (R114 step 4). -/
def State.evalInputs (s : State) : State :=
  { s with booths := .ofFn fun b =>
      { s.booth b with direct := s.isDirect b, input := (s.boothInput b).1, noRelay := (s.boothInput b).2 } }

/-- The derived fields of every booth and channel worked out anew, in the order of R114. -/
def State.derive (s : State) : State := s.evalBoothRooms.evalChannels.evalParking.evalInputs

/-- The CHANNEL reports of an evaluation, ascending (R115). -/
def channelReports (before after : State) (cause : Reason) : List Report :=
  (finsWhere 12 fun l =>
    (before.channel l).room != (after.channel l).room || (before.channel l).state != (after.channel l).state ||
      (before.channel l).parked != (after.channel l).parked).map fun l =>
    let c := after.channel l
    .booth (.channel l c.code (after.owner l) c.room c.state c.parked cause)

/-- The INPUT reports of an evaluation, ascending (R115). -/
def inputReports (before after : State) (cause : Reason) : List Report :=
  (finsWhere 8 fun b =>
    (before.booth b).room != (after.booth b).room || (before.booth b).direct != (after.booth b).direct ||
      (before.booth b).input != (after.booth b).input || (before.booth b).noRelay != (after.booth b).noRelay).map
    fun b =>
      let x := after.booth b
      .booth (.input b x.room x.direct x.input x.noRelay cause)

/-- Whether an evaluation hands anything to the listening unit (R114): a channel's state or parked flag, or a booth's
room or input, changed. -/
def handsToListening (before after : State) : Bool :=
  (List.finRange 12).any (fun l =>
    (before.channel l).state != (after.channel l).state || (before.channel l).parked != (after.channel l).parked) ||
  (List.finRange 8).any fun b =>
    (before.booth b).room != (after.booth b).room || (before.booth b).input != (after.booth b).input

/-- The PRESENT consoles whose console lamp differs from what it was before the event, ascending (R114). -/
def changedConsoleLamps (event after : State) : List Addr :=
  finsWhere 192 fun a =>
    (after.station a).state == .present && (after.station a).kind == .console &&
      event.consoleLamp a != after.consoleLamp a

/-- An evaluation (R114): the derived fields, the reports of every difference, a LAMP for every console whose lamp
changed since `event`, the state before the event that causes the evaluation, and the hand-over to the listening
unit. -/
def State.evaluate (s : State) (event : State) (cause : Reason) : State :=
  let d := s.derive
  let t : State := d.placeAll (channelReports s d cause ++ inputReports s d cause)
  let t : State := (changedConsoleLamps event d).foldl (fun t a => t.offerLamp a (d.consoleLamp a)) t
  if handsToListening s d then t.listenEvaluation else t

end Sys2Proof.Machine
end

