-- ==== Sys2Proof/Machine/Floor.lean ====
section
/-! DEFINITION. The floor controller (Chapter 5): grants, closes, the request pool and the advance pass; presses, the
chair and priority; settings, loss, moves and the swap. -/

namespace Sys2Proof.Machine

/-! ## Shared parts -/

/-- A FLOOR report with neither floor language nor chairs (R82). -/
def floorReport (k : FloorKind) (a : Option Addr) (r : Option RoomIx) (reason : Reason) : Report :=
  .floor { kind := k, addr := a, room := r, reason := reason, language := none, chairs := none }

/-- GRANTED, with the room's floor language after the grant (R82, R88). -/
def grantedReport (a : Addr) (r : RoomIx) (reason : Reason) (c : Lang) : Report :=
  .floor ⟨.granted, some a, some r, reason, some c, none⟩

/-- CHAIR_CHANGED, with the former and the new chair (R82, R95). -/
def chairReport (r : RoomIx) (former new : Option Addr) (reason : Reason) : Report :=
  .floor ⟨.chairChanged, none, some r, reason, none, some (former, new)⟩

/-- A station's floor lamp offered (R81). -/
def State.offerFloorLamp (s : State) (a : Addr) : State := s.offerLamp a (s.floorLamp a)

/-- A station's floor lamp offered when it differs from what it was in an earlier state (R81). -/
def State.offerIfChanged (s : State) (before : State) (a : Addr) : State :=
  if before.floorLamp a = s.floorLamp a then s else s.offerFloorLamp a

/-- A former head still queued is offered its lamp (R79). -/
def State.relampFormer (s : State) (before : State) (r : RoomIx) : State :=
  match before.head r with
  | some b => if s.head r != some b && (s.station b).mic == .queued then s.offerFloorLamp b else s
  | none => s

/-- After a change of a room's queue, the new head is offered NEXT and a former head still queued REQUESTED (R79). -/
def State.relampHead (s : State) (before : State) (r : RoomIx) : State :=
  if before.head r = s.head r then s
  else
    let t : State := match s.head r with
      | some a => s.offerFloorLamp a
      | none => s
    t.relampFormer before r

/-- The time and silence counts of a station started again (R88, R89, R95). -/
def Station.restartCounts (r : Station) : Station :=
  { r with seconds := 0, subFrames := 0, silence := 0, warning := false }

/-- A station's pool entry removed; nothing else (R78, R88 step 1). -/
def State.dropEntry (s : State) (a : Addr) : State :=
  { s with floor := { s.floor with pool := s.floor.pool.filter fun e => e.addr != a } }

/-- A spur marked as freed for the advance pass (R77, R89). -/
def State.markFreed (s : State) (p : SpurIx) : State :=
  { s with floor := { s.floor with freed := s.floor.freed ++ [p] } }

/-- A room marked as closing, or named to the advance pass (R89, R90). -/
def State.nameRoom (s : State) (r : RoomIx) : State :=
  { s with floor := { s.floor with named := s.floor.named ++ [r] } }

/-- The language that a grant gives its room, when it changes (R101). -/
def State.followedLanguage (s : State) (r : RoomIx) (a : Addr) : Option Lang :=
  match (s.room r).languageMode, (s.station a).declared with
  | .followSpeaker, some c => if c = (s.room r).language then none else some c
  | _, _ => none

/-- A grant (R88), with the floor language change of R101 handed over after its report. -/
def State.grant (s : State) (a : Addr) (reason : Reason) : State :=
  match s.stationRoom a with
  | none => s
  | some r =>
    let t : State := s.dropEntry a
    let stamp := t.floor.grantStamp
    let t : State := { t with floor := { t.floor with grantStamp := stamp + 1 } }
    let t : State := (t.updStation a fun x => { x with stamp := some stamp }).claim a
    let t : State := (t.updStation a fun x => { x.restartCounts with mic := .onAir }).offerFloorLamp a
    let lang := t.followedLanguage r a
    let t : State := match lang with
      | some c => t.updRoom r fun x => { x with language := c }
      | none => t
    let t : State := t.place (grantedReport a r reason (t.room r).language)
    let t : State := t.relampHead s r
    if lang.isSome then t.evaluate s .floorLanguage else t

/-- A close (R89). `room` is the room the station leaves; `reenter` says that the caller puts it at once in the pool
(R105), so that its stamp is kept and its lamp is left to the caller. -/
def State.close (s : State) (a : Addr) (room : Option RoomIx) (reason : Reason) (reenter : Bool) : State :=
  let t : State := (s.free a).markFreed (s.station a).spur
  let t : State := t.updStation a fun x =>
    { x.restartCounts with mic := .off, stamp := if reenter then x.stamp else none }
  let t : State := if reenter then t else t.offerLamp a .off
  let t : State := t.place (floorReport .closed (some a) room reason)
  match room with
  | some r => t.nameRoom r
  | none => t

/-- An entry added to the pool (R78): it takes the next request stamp, and its station becomes QUEUED. -/
def State.addEntry (s : State) (a : Addr) (reentry : Bool) : State :=
  let e : PoolEntry := { addr := a, stamp := s.floor.requestStamp, reentry := reentry }
  let t : State :=
    { s with floor := { s.floor with pool := s.floor.pool ++ [e], requestStamp := s.floor.requestStamp + 1 } }
  t.updStation a fun x => { x with mic := .queued }

/-- A removal other than a grant (R78): mic OFF, grant stamp none, lamp OFF, a REMOVED report, and the heads. -/
def State.removeQueued (s : State) (a : Addr) (room : Option RoomIx) (reason : Reason) : State :=
  let t : State := (s.dropEntry a).updStation a fun x => { x with mic := .off, stamp := none }
  let t : State := (t.offerLamp a .off).place (floorReport .removed (some a) room reason)
  match room with
  | some r => t.relampHead s r
  | none => t

/-- A refused press: LAMP REFUSED and REQUEST_REFUSED (R78, R85, R92). -/
def State.refusePress (s : State) (a : Addr) (r : RoomIx) (reason : Reason) : State :=
  (s.offerLamp a .refused).place (floorReport .requestRefused (some a) (some r) reason)

/-- A held press cleared with a report (R87, R103, R104). -/
def State.clearHeld (s : State) (a : Addr) (room : Option RoomIx) (reason : Reason) : State :=
  (s.updStation a fun x => { x with held := false }).place (floorReport .heldCleared (some a) room reason)

/-! ## The advance pass (R90) -/

/-- A room qualifies for the advance pass. -/
def State.advances (s : State) (r : RoomIx) : Bool :=
  s.active r && !s.underChangeover r &&
    match (s.room r).mode with
    | .openFloor => true
    | .request => (s.room r).autoAdvance
    | .replace => false

/-- A walk of a room's queue from head to tail: each entry whose spur has a free slot is granted while the delegate
count is below max open. -/
def State.walkQueue (s : State) (r : RoomIx) : State :=
  (s.queue r).foldl (fun t e =>
    if t.delegateCount r < (t.room r).maxOpen && t.hasFreeTalk (t.station e.addr).spur then t.grant e.addr .auto
    else t) s

/-- The candidate rooms of a pass: those named, and those with a queue entry on a freed spur that has a free slot. -/
def State.candidates (s : State) (freed : List SpurIx) (named : List RoomIx) : List RoomIx :=
  finsWhere 16 fun r => named.contains r ||
    (s.queue r).any fun e =>
      freed.contains (s.station e.addr).spur && s.hasFreeTalk (s.station e.addr).spur

/-- An advance pass over the rooms of an event, ascending. -/
def State.advance (s : State) (freed : List SpurIx) (named : List RoomIx) : State :=
  (s.candidates freed named).foldl (fun t r => if t.advances r then t.walkQueue r else t) s

/-- The end of an event of the floor controller: its advance pass, with what the event collected cleared. -/
def State.endFloorEvent (s : State) : State :=
  let t : State := { s with floor := { s.floor with freed := [], named := [] } }
  t.advance s.floor.freed s.floor.named

/-! ## Priority and the chair -/

/-- A room's priority-active flag written. -/
def State.setPriority (s : State) (r : RoomIx) (x : Bool) : State :=
  { s with floor := { s.floor with priority := s.floor.priority.set r x } }

/-- A priority-active flag that is set lowered, and PRIORITY_OFF placed (R94). -/
def State.lowerFlag (s : State) (r : RoomIx) (reason : Reason) : State :=
  (s.setPriority r false).place (floorReport .priorityOff none (some r) reason)

/-- The priority-active flag cleared (R94): PRIORITY_OFF, and every ON_AIR delegate of the room, its chair among them
(DEDUCED, log 14), offered its floor lamp again. A clear flag is left alone. DESIGN CHOICE (log 54): the lamps are offered
in grant order. -/
def State.clearPriority (s : State) (r : RoomIx) (reason : Reason) : State :=
  if s.floor.priority.get r then
    let t : State := s.lowerFlag r reason
    (t.speakers r).foldl State.offerFloorLamp t
  else s

/-- The excess of a list of ON_AIR stations, in grant order, that count against a limit: the most recently granted of
them, the latest first. -/
def excess (counted : List Addr) (limit : Nat) : List Addr := counted.reverse.take (counted.length - limit)

/-- The excess of the counted stations of a room over its max open closed with reason LIMIT (R95 step 2, R100 step 1,
R104 step 4). -/
def State.closeExcess (s : State) (r : RoomIx) (counted : List Addr) : State :=
  (excess counted (s.room r).maxOpen).foldl (fun t a => t.close a (some r) .limit false) s

/-- A former chair that is ON_AIR in its room made an ordinary delegate (R95 step 2): its counts start again, and it
counts. Every speaker of the room is counted, since the new chair leaves the count at step 3 only. -/
def State.dropChair (s : State) (r : RoomIx) (a : Addr) : State :=
  (s.updStation a Station.restartCounts).closeExcess r (s.speakers r)

/-- A chair press (R92). -/
def State.chairPress (s : State) (r : RoomIx) (a : Addr) : State :=
  let spur := (s.station a).spur
  if (s.station a).mic != .off then s.offerFloorLamp a
  else if s.hasFreeTalk spur then s.grant a .chair
  else match ((s.delegates r).reverse.find? fun d => (s.station d).spur == spur) with
    | some d => (s.close d (some r) .reclaimed false).grant a .chair
    | none => s.refusePress a r .noSlot

/-- A chair change (R95), in the state where the record already names the new chair; `before` is the state before the
record was written. -/
def State.chairChange (s : State) (before : State) (r : RoomIx) (former new : Option Addr) (reason : Reason) :
    State :=
  let t : State := s.clearPriority r .chair
  let t : State := match former with
    | some f => if (t.station f).mic == .onAir && t.stationRoom f == some r then t.dropChair r f else t
    | none => t
  let t : State := match new with
    | some n =>
      if t.stationRoom n == some r && (t.station n).kind == .delegate then
        match (t.station n).mic with
        | .queued => t.removeQueued n (some r) .chair
        | .onAir => (t.updStation n Station.restartCounts).offerIfChanged before n
        | .off => t
      else t
    | none => t
  let t : State := t.place (chairReport r former new reason)
  t.nameRoom r

/-! ## Presses and releases -/

/-- A request entered in the pool by a press, or refused when the pool is full (R78, R84, R86). -/
def State.enqueuePress (s : State) (a : Addr) (r : RoomIx) : State :=
  if s.floor.pool.length < Config.poolSize then
    let t : State := s.addEntry a false
    ((t.offerFloorLamp a).relampFormer s r).place (floorReport .queued (some a) (some r) .press)
  else s.refusePress a r .poolFull

/-- An OPEN press (R84). -/
def State.openPress (s : State) (a : Addr) (r : RoomIx) : State :=
  if s.delegateCount r < (s.room r).maxOpen && s.hasFreeTalk (s.station a).spur then s.grant a .press
  else s.enqueuePress a r

/-- A REPLACE press (R85). -/
def State.replacePress (s : State) (a : Addr) (r : RoomIx) : State :=
  let spur := (s.station a).spur
  if s.delegateCount r < (s.room r).maxOpen then
    if s.hasFreeTalk spur then s.grant a .press else s.refusePress a r .noSlot
  else match (s.delegates r).head? with
    | some d =>
      if s.hasFreeTalk spur || (s.station d).spur == spur then (s.close d (some r) .replaced false).grant a .press
      else s.refusePress a r .noSlot
    | none => s.refusePress a r .noSlot

/-- A REQUEST press (R86). -/
def State.requestPress (s : State) (a : Addr) (r : RoomIx) : State :=
  let t : State := s.enqueuePress a r
  if (s.room r).autoAdvance && s.floor.pool.length < Config.poolSize then t.nameRoom r else t

/-- A press taken in a room under changeover (R83). -/
def State.holdPress (s : State) (a : Addr) (r : RoomIx) : State :=
  let x := s.station a
  if x.mic != .off then s.offerFloorLamp a
  else if x.held then s
  else (s.updStation a fun x => { x with held := true }).place (floorReport .held (some a) (some r) .press)

/-- PRESS from a PRESENT delegate (R83), without the advance pass that ends the event. -/
def State.pressStation (s : State) (a : Addr) : State :=
  match s.stationRoom a with
  | none => s.offerLamp a .unplaced
  | some r =>
    if s.underChangeover r then s.holdPress a r
    else if s.isChair r a then s.chairPress r a
    else if (s.station a).mic != .off then s.offerFloorLamp a
    else match (s.room r).mode with
      | .openFloor => s.openPress a r
      | .replace => s.replacePress a r
      | .request => s.requestPress a r

/-- PRESS as an event of the floor controller. -/
def State.floorPress (s : State) (a : Addr) : State := (s.pressStation a).endFloorEvent

/-- RELEASE (R83, R87). -/
def State.floorRelease (s : State) (a : Addr) : State :=
  match s.stationRoom a with
  | none => s
  | some r =>
    (match (s.station a).mic with
      | .onAir => s.close a (some r) .released false
      | .queued => s
      | .off => if (s.station a).held then s.clearHeld a (some r) .released else s).endFloorEvent

/-- CANCEL (R83, R87). -/
def State.floorCancel (s : State) (a : Addr) : State :=
  match s.stationRoom a with
  | none => s
  | some r =>
    (match (s.station a).mic with
      | .onAir => s
      | .queued => s.removeQueued a (some r) .cancelled
      | .off => if (s.station a).held then s.clearHeld a (some r) .cancelled else s).endFloorEvent

/-- NEXT from a room's chair (R91). DESIGN CHOICE (log 44): AT_LIMIT is examined before NO_SLOT. -/
def State.nextPress (s : State) (r : RoomIx) (a : Addr) : State :=
  match s.head r with
  | none => s.place (floorReport .nextRefused (some a) (some r) .empty)
  | some h =>
    if (s.room r).maxOpen ≤ s.delegateCount r then s.place (floorReport .nextRefused (some a) (some r) .atLimit)
    else if s.hasFreeTalk (s.station h).spur then s.grant h .next
    else s.place (floorReport .nextRefused (some a) (some r) .noSlot)

/-- NEXT (R83, R91). -/
def State.floorNext (s : State) (a : Addr) : State :=
  match s.stationRoom a with
  | none => s
  | some r =>
    if s.underChangeover r || !s.isChair r a then s else (s.nextPress r a).endFloorEvent

/-- A priority press from a room's chair (R93): by the priority mode, and while the flag is already set the chair press
alone. DESIGN CHOICE (log 61): that is so too in a room whose mode has become CLEAR while the flag is set, where R93 says
so of every mode and R94 and R100 apply the new mode to the next press. DESIGN CHOICE (log 54): LAMP MUTED is offered in
grant order. -/
def State.priorityPressed (s : State) (r : RoomIx) (a : Addr) : State :=
  if s.floor.priority.get r then s.chairPress r a
  else match (s.room r).priorityMode with
  | .mute =>
    let t : State := s.chairPress r a
    let t : State := (t.setPriority r true).place (floorReport .priorityOn none (some r) .mute)
    (t.delegates r).foldl (fun t d => t.offerLamp d .muted) t
  | .clear =>
    let t : State := (s.delegates r).foldl (fun t d => t.close d (some r) .priority false) s
    let t : State := (t.queue r).foldl (fun t e => t.removeQueued e.addr (some r) .priority) t
    (t.chairPress r a).place (floorReport .priorityOn none (some r) .clear)

/-- PRIORITY_PRESS (R83, R93). -/
def State.floorPriorityPress (s : State) (a : Addr) : State :=
  match s.stationRoom a with
  | none => s.offerLamp a .unplaced
  | some r =>
    if s.underChangeover r then s.holdPress a r
    else if s.isChair r a then (s.priorityPressed r a).endFloorEvent
    else s

/-- PRIORITY_RELEASE (R83, R94). -/
def State.floorPriorityRelease (s : State) (a : Addr) : State :=
  match s.stationRoom a with
  | none => s
  | some r => if s.isChair r a then (s.clearPriority r .released).endFloorEvent else s

/-! ## Speaking time, silence and settings -/

/-- On-air seconds that lie in the warning period of a speak limit (R98). -/
def warns (limit seconds : Nat) : Bool := 30 < limit && limit ≤ seconds + 30

/-- A station is an ON_AIR delegate of its room other than its chair; its room. -/
def State.timedRoom (s : State) (a : Addr) : Option RoomIx :=
  if (s.station a).mic == .onAir then
    (s.stationRoom a).bind fun r => if s.isChair r a then none else some r
  else none

/-- A speak limit examined against every delegate of a room (R98): those at it are closed, oldest grant first; the
others enter or leave their warning period. DESIGN CHOICE (log 54): the closes come first, and the lamps are then offered
in grant order. -/
def State.examineLimit (s : State) (r : RoomIx) : State :=
  let limit := (s.room r).speakLimit
  let late := (s.delegates r).filter fun a => limit != 0 && limit ≤ (s.station a).seconds
  let t : State := late.foldl (fun t a => t.close a (some r) .time false) s
  (t.delegates r).foldl (fun t a =>
    (t.updStation a fun x => { x with warning := warns limit x.seconds }).offerIfChanged t a) t

/-- A silence timeout examined against the standing counts of a room (R99). -/
def State.examineSilence (s : State) (r : RoomIx) : State :=
  let limit := (s.room r).silenceTimeout * Config.framesPerSecond
  let late := (s.delegates r).filter fun a => limit != 0 && limit ≤ (s.station a).silence
  late.foldl (fun t a => t.close a (some r) .silence false) s

/-- The settings of an ACTIVE id that a ROOM_SET changed (R100), in the state where the record is written; `before` is
the state before. The advance pass is left to the caller. DESIGN CHOICE (log 45): steps 1 to 4 count by the chair of the
record as written. -/
def State.applySettings (s : State) (before : State) (r : RoomIx) : State :=
  let old := before.room r
  let new := s.room r
  let t : State := if new.maxOpen < old.maxOpen then s.closeExcess r (s.delegates r)
    else if old.maxOpen < new.maxOpen then s.nameRoom r else s
  let t : State := if new.mode != old.mode && (new.mode == .openFloor || (new.mode == .request && new.autoAdvance)) then
    t.nameRoom r else t
  let t : State := if new.mode == .request && new.autoAdvance && !old.autoAdvance then t.nameRoom r else t
  let t : State := if new.speakLimit != old.speakLimit then t.examineLimit r else t
  let t : State := if new.silenceTimeout != 0 && (old.silenceTimeout == 0 || new.silenceTimeout < old.silenceTimeout) then
    t.examineSilence r else t
  if new.chair != old.chair then t.chairChange before r old.chair new.chair .directive else t

/-! ## Loss and moves -/

/-- The loss rule (R102), for a record already LOST. -/
def State.floorLoss (s : State) (a : Addr) : State :=
  let room := s.stationRoom a
  let t : State := match room with
    | some r => if s.isChair r a then s.clearPriority r .lost else s
    | none => s
  let t : State := match (t.station a).mic with
    | .onAir => t.close a room .lost false
    | .queued => t.removeQueued a room .lost
    | .off => t
  (t.updStation a fun x => { x.restartCounts with held := false, stamp := none }).endFloorEvent

/-- A move (R103), before the record takes its new section: the old room is named to the advance pass that ends it,
whatever the station's mic state. -/
def State.floorMove (s : State) (a : Addr) : State :=
  let room := s.stationRoom a
  let t : State := match (s.station a).mic with
    | .onAir => s.close a room .moved false
    | .queued => s.removeQueued a room .moved
    | .off => s
  let t : State := if (t.station a).held then t.clearHeld a room .moved else t
  (match room with
    | some r => t.nameRoom r
    | none => t).endFloorEvent

/-! ## The swap (R104 to R106) -/

/-- The ids that are ACTIVE in a new map with a section set that differs from the old (R59). -/
def changedIds (old new : RoomMap) : List RoomIx :=
  finsWhere 16 fun r => activeIn new r && sectionSet old r != sectionSet new r

/-- The ids that were ACTIVE in the old map and are IDLE in the new. -/
def closedIds (old new : RoomMap) : List RoomIx :=
  finsWhere 16 fun r => activeIn old r && !activeIn new r

/-- Where the record of an id of a new map starts (R59 step 1): from its own when its component claimed it in the
first pass of R58, which is when the old map gives the component's lowest section that id. -/
def originOf (old new : RoomMap) (r : RoomIx) : Origin :=
  match (lowestFin 16 fun i => new.get i == some r).bind old.get with
  | some q => if q = r then .claimed else .copied q
  | none => .defaults

/-- Stations left without a room (R104 step 1), with the room each had. -/
def State.swapRoomless (s : State) (old : State) : State :=
  eachFin 192 (fun a t =>
    if (t.stationRoom a).isSome then t
    else match (t.station a).mic with
      | .onAir => t.close a (old.stationRoom a) .noRoom false
      | .queued => t.removeQueued a (old.stationRoom a) .noRoom
      | .off => if (t.station a).held then t.clearHeld a (old.stationRoom a) .noRoom else t) s

/-- A LAMP for every station of one mic state whose floor lamp the swap changed (R104 steps 2 and 3). DESIGN CHOICE (log
55): in ascending address order. -/
def State.swapLamps (s : State) (old : State) (m : Mic) : State :=
  eachFin 192 (fun a t => if (t.station a).mic == m && (old.station a).mic == m then t.offerIfChanged old a else t) s

/-- Priority flags at a swap (R104 step 3): a flag that does not stay is cleared as R94 gives, with the lamp of every
ON_AIR delegate of the room offered again; under override a swap offers nothing for a station that stays ON_AIR
(R169). DESIGN CHOICE (log 55): changed ids and ids that became IDLE are taken in one ascending pass. -/
def State.swapPriority (s : State) (old : State) : State :=
  eachFin 16 (fun r t =>
    let keeps :=
      if (changedIds old.map.live t.map.live).contains r then
        originOf old.map.live t.map.live r == .claimed && (old.room r).chair == (t.room r).chair
      else !(closedIds old.map.live t.map.live).contains r
    if keeps || !t.floor.priority.get r then t
    else if t.overrideActive then t.lowerFlag r .merge
    else t.clearPriority r .merge) s

/-- A station was its room's chair. -/
def State.wasChair (old : State) (a : Addr) : Bool :=
  match old.stationRoom a with
  | some q => old.isChair q a
  | none => false

/-- The ON_AIR stations of a room that were chair before a swap and are not the chair of the room after it. -/
def State.formerChairs (s : State) (old : State) (r : RoomIx) : List Addr :=
  (s.speakers r).filter fun a => old.wasChair a && !s.isChair r a

/-- The ON_AIR stations of a room that count against its max open while its former chairs become ordinary delegates at a
swap (R104 step 4): all but a chair that keeps its role. DEDUCED (log 17): one that becomes chair counts still. -/
def State.swapCounted (s : State) (old : State) (r : RoomIx) : List Addr :=
  (s.speakers r).filter fun a => !(old.wasChair a && s.isChair r a)

/-- The former chairs of a room made ordinary delegates at a swap (R104 step 4), as step 2 of R95 gives: their counts start
again, and where there is one, the excess is closed with reason LIMIT. -/
def State.dropFormerChairs (s : State) (old : State) (r : RoomIx) : State :=
  let former := s.formerChairs old r
  if former.isEmpty then s
  else (former.foldl (fun t a => t.updStation a Station.restartCounts) s).closeExcess r (s.swapCounted old r)

/-- A station that becomes chair at a swap (R104 step 4), as step 3 of R95 gives; its lamp is offered by step 3 of
R104. -/
def State.swapNewChair (s : State) (old : State) (r : RoomIx) (a : Addr) : State :=
  if s.isChair r a && !old.wasChair a then
    match (s.station a).mic with
    | .onAir => s.updStation a Station.restartCounts
    | .queued => s.removeQueued a (some r) .chair
    | .off => s
  else s

/-- Chairs at a swap (R104 step 4): for each changed id its former chairs, its new chair, and CHAIR_CHANGED. DESIGN CHOICE
(log 55): in ascending id order. -/
def State.swapChairs (s : State) (old : State) : State :=
  (changedIds old.map.live s.map.live).foldl (fun t r =>
    let t : State := eachFin 192 (fun a t => t.swapNewChair old r a) (t.dropFormerChairs old r)
    if (old.room r).chair = (t.room r).chair then t
    else t.place (chairReport r (old.room r).chair (t.room r).chair .swap)) s

/-- One delegate closed by the excess rule put in the pool (R105). -/
def State.reenter (s : State) (r : RoomIx) (a : Addr) : State :=
  let t : State := (s.addEntry a true).place (floorReport .queued (some a) (some r) .merge)
  (t.offerFloorLamp a).relampFormer s r

/-- The excess rule for one id (R105): of the delegates closed, those granted first go back into the pool while it has
room; each of the others has its LAMP OFF at its own close (R89 step 5). -/
def State.mergeExcess (s : State) (r : RoomIx) : State :=
  let late := excess (s.delegates r) (s.room r).maxOpen
  let back := late.reverse.take (Config.poolSize - s.floor.pool.length)
  let t : State := late.foldl (fun t a => t.close a (some r) .merge (back.contains a)) s
  back.foldl (fun t a => t.reenter r a) t

/-- The floor controller takes a swap (R104, R105); `old` is the state before the new map took effect. DESIGN CHOICE (log
63): a grant of its advance pass that changes a floor language is evaluated within it. -/
def State.floorSwap (s : State) (old : State) : State :=
  let t : State := ((s.swapRoomless old).swapLamps old .queued).swapPriority old
  let t : State := ((t.swapLamps old .onAir).swapChairs old)
  (eachFin 16 (fun r t => if t.active r then t.mergeExcess r else t) t).endFloorEvent

/-- A held press taken as a fresh PRESS (R106 step 2). -/
def State.takeHeld (s : State) (a : Addr) : State :=
  if (s.station a).held && (s.station a).state == .present then
    (s.updStation a fun x => { x with held := false }).floorPress a
  else s

/-- The end of a changeover (R106) that named these ids. -/
def State.changeoverEnd (s : State) (ids : List RoomIx) : State :=
  eachFin 192 (fun a t => t.takeHeld a) (s.advance [] ids)

/-- The floor lamps at a start or end of override (R169): ACTIVE ids ascending, each speaker list in grant order. -/
def State.overrideFloorLamps (s : State) (before : State) : State :=
  eachFin 16 (fun r t => if t.active r then (t.speakers r).foldl (fun t a => t.offerIfChanged before a) t else t) s

end Sys2Proof.Machine
end

