-- ==== Sys2Proof/Machine/Consoles.lean ====
section
/-! DEFINITION. The interpretation unit's events: consoles going on and off the air (R117 to R121), loss and moves
(R122, R123), a changed booth (R125), the swap (R128) and the lamps of override (R170). -/

namespace Sys2Proof.Machine

/-- A CONSOLE_ON refused (R116, R117, R120): CONSOLE_REFUSED, and LAMP REFUSED, or the console's own lamp again when it
is on the air. -/
def State.refuseConsole (s : State) (a : Addr) (out : Output) (reason : Reason) : State :=
  let t : State := if (s.standsOn a).isSome then s.offerLamp a (s.consoleLamp a) else s.offerLamp a .refused
  t.place (.booth (.consoleRefused (s.station a).booth a out reason))

/-- The console number of a station that stands in a booth. -/
def State.consoleNumber (s : State) (a : Addr) : ConsoleIx := ((s.station a).booth.map Prod.snd).getD 0

/-- The console on an output, if any, taken off it (R119 step 1, R121, R122, R125, R128): its slot freed, the output
field cleared, and CONSOLE_OFF placed. -/
def State.takeOff (s : State) (b : BoothIx) (o : Output) (reason : Reason) : State :=
  match (s.booth b).standing o with
  | none => s
  | some c =>
    ((s.free c).updBooth b fun x => x.stand o none).place (.booth (.consoleOff b (s.consoleNumber c) c o reason))

/-- The spurs on which taking these outputs' consoles off frees a talk slot, in order. -/
def State.freedBy (s : State) (outs : List (BoothIx × Output)) : List SpurIx :=
  outs.filterMap fun x => ((s.booth x.1).standing x.2).map fun c => (s.station c).spur

/-- Consoles taken off several outputs in order. -/
def State.takeOffAll (s : State) (outs : List (BoothIx × Output)) (reason : Reason) : State :=
  outs.foldl (fun t x => t.takeOff x.1 x.2 reason) s

/-- Each free of a console's slot is an event of its own for the advance pass (R90). -/
def State.consolePasses (s : State) (freed : List SpurIx) : State := freed.foldl (fun t p => t.advance [p] []) s

/-- A console put on the air to a free output (R118, R119 steps 2 and 3). -/
def State.putOnAir (s : State) (a : Addr) (b : BoothIx) (o : Output) (cause : Reason) : State :=
  let t : State := (s.claim a).updBooth b fun x => x.stand o (some a)
  t.place (.booth (.consoleOn b (t.consoleNumber a) a o (t.station a).spur (t.station a).talk cause))

/-- A press for output o of a booth that has it, from a console not on the air, under LOCKOUT (R118). -/
def State.lockoutOn (s : State) (a : Addr) (b : BoothIx) (o : Output) : State :=
  if ((s.booth b).standing o).isSome then s.refuseConsole a o .locked
  else if !s.hasFreeTalk (s.station a).spur then s.refuseConsole a o .noSlot
  else (s.putOnAir a b o .press).evaluate s .console

/-- The same press under TAKEOVER (R119). -/
def State.takeoverOn (s : State) (a : Addr) (b : BoothIx) (o : Output) : State :=
  let spur := (s.station a).spur
  let sameSpur := match (s.booth b).standing o with
    | some c => (s.station c).spur == spur && (s.station c).talk.isSome
    | none => false
  if !s.hasFreeTalk spur && !sameSpur then s.refuseConsole a o .noSlot
  else
    let cause := if ((s.booth b).standing o).isSome then .takeover else .press
    (((s.takeOff b o .takeover).putOnAir a b o cause).evaluate s .console).consolePasses (s.freedBy [(b, o)])

/-- A console on the air to one output presses for the other (R120). -/
def State.switchTo (s : State) (a : Addr) (b : BoothIx) (o first : Output) : State :=
  if (s.booth b).room.isNone then s.refuseConsole a o .noRoom
  else if ((s.booth b).output o).isNone then s.refuseConsole a o .noOutput
  else if (s.booth b).interlock == .lockout && ((s.booth b).standing o).isSome then s.refuseConsole a o .locked
  else
    let t : State := s.takeOff b o .takeover
    let t : State := t.updBooth b fun x => (x.stand first none).stand o (some a)
    let t : State := t.place
      (.booth (.consoleOn b (t.consoleNumber a) a o (t.station a).spur (t.station a).talk .switch))
    (t.evaluate s .console).consolePasses (s.freedBy [(b, o)])

/-- CONSOLE_ON from a PRESENT console (R117 to R120). -/
def State.consoleOn (s : State) (a : Addr) (o : Output) : State :=
  match s.standsOn a with
  | some (b, first) => if first = o then s.offerLamp a (s.consoleLamp a) else s.switchTo a b o first
  | none =>
    match (s.station a).booth with
    | none => s.refuseConsole a o .unbound
    | some (b, _) =>
      if (s.booth b).room.isNone then s.refuseConsole a o .noRoom
      else if ((s.booth b).output o).isNone then s.refuseConsole a o .noOutput
      else match (s.booth b).interlock with
        | .lockout => s.lockoutOn a b o
        | .takeover => s.takeoverOn a b o

/-- A console that stands on the air taken off, with the evaluation and the pass that follow (R121, R122, R123). A
console not on the air has nothing in the booth table. -/
def State.consoleLeaves (s : State) (a : Addr) (reason cause : Reason) : State :=
  match s.standsOn a with
  | none => s
  | some (b, o) => ((s.takeOff b o reason).evaluate s cause).consolePasses (s.freedBy [(b, o)])

/-- CONSOLE_OFF (R121). -/
def State.consoleOff (s : State) (a : Addr) : State := s.consoleLeaves a .released .console

/-- The loss rule (R122). -/
def State.consoleLoss (s : State) (a : Addr) : State := s.consoleLeaves a .lost .loss

/-- A STATION_SET changes a PRESENT console's booth and console (R123), before the record takes them. -/
def State.consoleMoves (s : State) (a : Addr) : State := s.consoleLeaves a .moved .directive

/-- A BOOTH_SET that wrote a change acts on the booth's consoles and evaluates (R125); `before` is the state before
the entry was written. DESIGN CHOICE (log 48): of two consoles taken off, the one on output A goes first. -/
def State.boothChanged (s : State) (before : State) (b : BoothIx) : State :=
  let removed := (outputs.filter fun o => ((s.booth b).output o).isNone).map fun o => (b, o)
  let t : State := s.takeOffAll removed .outputRemoved
  let roomless := if (t.boothRoom b).isNone then outputs.map fun o => (b, o) else []
  let freed := s.freedBy removed ++ t.freedBy roomless
  ((t.takeOffAll roomless .dark).evaluate before .directive).consolePasses freed

/-- The interpretation unit takes a swap (R128). -/
def State.boothSwap (s : State) : State :=
  let roomless := (finsWhere 8 fun b => (s.boothRoom b).isNone).flatMap fun b => outputs.map fun o => (b, o)
  ((s.takeOffAll roomless .dark).evaluate s .swap).consolePasses (s.freedBy roomless)

/-- The interpretation unit at warm restart (R130): the output fields cleared, and the derived fields worked out with
nothing reported, offered or handed on. -/
def State.boothRestart (s : State) : State :=
  let t : State := { s with booths := s.booths.map fun b => { b with onA := none, onB := none } }
  t.derive

/-- The console lamps at a start or end of override (R170): booths ascending, output A before output B. -/
def State.overrideConsoleLamps (s : State) (before : State) : State :=
  eachFin 8 (fun b t => outputs.foldl (fun t o =>
    match (t.booth b).standing o with
    | some c => if before.consoleLamp c = t.consoleLamp c then t else t.offerLamp c (t.consoleLamp c)
    | none => t) t) s

end Sys2Proof.Machine
end

