-- ==== Sys2Proof/Machine/Registry.lean ====
section
/-! DEFINITION. The station registry (Chapter 2): loss (R34, R35), arrival and joining (R21, R22), events from addressed
stations (R23, R193), the outcomes of commands (R22, R31), polling (R32), expiry (R36), the spur's links (R13, R14) and
the warm restart (R41). -/

namespace Sys2Proof.Machine

/-! ## Loss -/

/-- A JOINING or PRESENT station is lost (R34). -/
def State.lose (s : State) (a : Addr) (cause : Reason) : State :=
  let r := s.station a
  let t : State := s.updStation a fun x =>
    { x with state := .lost, holdLeft := s.lostHold * Config.framesPerSecond, missed := 0 }
  let t : State := t.updSpur r.spur (Spur.removeStation t.stations a)
  let t : State := t.place (.station (.lost a r.uid r.spur cause))
  ((t.floorLoss a).consoleLoss a).listenLoss a

/-- A record that is JOINING or PRESENT. -/
def Station.active (r : Station) : Bool := r.state == .joining || r.state == .present

/-- A record that holds a station (R17). -/
def Station.holds (r : Station) : Bool := r.state != .empty

/-- A spur's loss (R35): each JOINING or PRESENT record of it lost, ascending. -/
def State.loseSpur (s : State) (p : SpurIx) : State :=
  eachFin 192 (fun a t =>
    if (t.station a).active && (t.station a).spur == p then t.lose a .spurDown else t) s

/-! ## Arrival and joining -/

/-- A JOINING record becomes PRESENT (R22, REPLIED): it leaves the assign list, JOINED is placed, and the listening unit
takes the arrival (R134). The floor controller and the interpretation unit do nothing (R76, R122). -/
def State.promote (s : State) (a : Addr) : State :=
  let r := s.station a
  let t : State := s.updStation a fun x => { x with state := .present, missed := 0 }
  let t : State := t.updSpur r.spur fun p => { p with assign := p.assign.filter fun e => e.addr != a }
  (t.place (.station (.joined a r.uid r.kind r.spur r.sec))).listenTo a

/-- A record becomes JOINING and its ASSIGN joins the tail of its spur's assign list (R21). -/
def State.startJoin (s : State) (p : SpurIx) (a : Addr) (r : Station) : State :=
  (s.updStation a fun _ => r).updSpur p fun x =>
    { x with assign := x.assign ++ [{ addr := a, uid := r.uid, awaiting := false }] }

/-- A LOST record that its station comes back to (R21 step 3), with the idle values of R18. Booth and console are kept
by a CONSOLE only, since R17 has no other record hold them (log 10). -/
def Station.returning (r : Station) (p : SpurIx) (kind : Kind) (key : Bool) : Station :=
  { Station.initial with
    state := .joining, uid := r.uid, kind := kind, key := key && kind == .delegate, spur := p, sec := r.sec,
    declared := r.declared, booth := if kind = .console then r.booth else none, trim := r.trim, listen := r.listen }

/-- Another record that holds a station carries a booth and console. -/
def State.seatTaken (s : State) (a : Addr) (seat : BoothIx × ConsoleIx) : Bool :=
  (lowestFin 192 fun x => x != a && (s.station x).holds && (s.station x).booth == some seat).isSome

/-- A fresh record for a join at an address (R17, R21 steps 4 and 5), with the binding's fields where there is one. -/
def State.freshStation (s : State) (a : Addr) (p : SpurIx) (uid : Uid) (kind : Kind) (key : Bool)
    (b : Option Binding) : Station :=
  { Station.initial with
    state := .joining, uid := uid, kind := kind, key := key && kind == .delegate, spur := p,
    sec := b.bind Binding.sec, declared := b.bind Binding.declared,
    booth := if kind = .console then (b.bind Binding.booth).filter fun x => !s.seatTaken a x else none }

/-- The records that are JOINING or PRESENT on a spur. -/
def State.stationsOn (s : State) (p : SpurIx) : Nat :=
  (finsWhere 192 fun a => (s.station a).active && (s.station a).spur == p).length

/-- Steps 2 to 5 of R21. -/
def State.placeJoin (s : State) (p : SpurIx) (uid : Uid) (kind : Kind) (key : Bool) : State :=
  if Config.spurStations ≤ s.stationsOn p then s.place (.station (.joinRefused .spurFull (some (uid, p))))
  else match lowestFin 192 fun a => (s.station a).state == .lost && (s.station a).uid == uid with
  | some a => s.startJoin p a ((s.station a).returning p kind key)
  | none =>
    match s.bindings.find? fun b => b.uid == uid with
    | some b =>
      if (s.station b.addr).holds then s.place (.station (.bindingConflict uid p b.addr))
      else s.startJoin p b.addr (s.freshStation b.addr p uid kind key (some b))
    | none =>
      match lowestFin 192 fun a => !(s.station a).holds && !(s.bindings.any fun b => b.addr == a) with
      | some a => s.startJoin p a (s.freshStation a p uid kind key none)
      | none => s.place (.station (.joinRefused .noAddress none))

/-- The registry takes a JOIN (R21). -/
def State.takeJoin (s : State) (p : SpurIx) (uid : Uid) (kind : Kind) (key : Bool) : State :=
  let t : State := match lowestFin 192 fun a => (s.station a).active && (s.station a).uid == uid with
    | some a => s.lose a .rejoin
    | none => s
  t.placeJoin p uid kind key

/-! ## Events -/

/-- An event from an addressed station (R23): checked against its record, and handed on where the table says so. -/
def State.routeEvent (s : State) (p : SpurIx) (a : Addr) (uid : Uid) (handOn : State → State) : State :=
  let r := s.station a
  let stray := s.place (.station (.stray p a uid))
  if r.uid = uid then
    match r.state with
    | .empty => stray
    | .lost => s.takeJoin p uid r.kind r.key
    | .joining => if r.spur = p then handOn (s.promote a) else stray
    | .present => if r.spur = p then handOn s else stray
  else stray

/-- Events the table takes from DELEGATE records (R23). -/
def State.fromDelegate (s : State) (a : Addr) (f : State → State) : State :=
  if (s.station a).kind = .delegate then f s else s

/-- Events the table takes from DELEGATE records with a priority key fitted (R23). -/
def State.fromKey (s : State) (a : Addr) (f : State → State) : State :=
  if (s.station a).kind = .delegate ∧ (s.station a).key then f s else s

/-- Events the table takes from CONSOLE records (R23). -/
def State.fromConsole (s : State) (a : Addr) (f : State → State) : State :=
  if (s.station a).kind = .console then f s else s

/-- A step that a received frame had handed on has been taken. -/
def State.unhand (s : State) (c : Instr) : State := { s with handed := s.handed.erase c }

/-- Station events of a spur that is DOWN are not read (R8, R13). -/
def State.fromSpur (s : State) (c : Instr) (p : SpurIx) (f : State → State) : State :=
  if (s.spur p).link.up then f (s.unhand c) else s.unhand c

/-- JOIN as the spur interface hands it up, its arguments checked (R193). -/
def State.joinEvent (s : State) (p : SpurIx) (uid : Uid) (arg0 arg1 : Byte) : State :=
  if arg0 = 0 then s.takeJoin p uid .delegate (arg1 == 1)
  else if arg0 = 1 then s.takeJoin p uid .console (arg1 == 1)
  else s

/-- CONSOLE_ON as handed up (R193). -/
def State.consoleOnEvent (s : State) (p : SpurIx) (a : Addr) (uid : Uid) (arg0 : Byte) : State :=
  if arg0 = 0 then s.routeEvent p a uid fun t => t.fromConsole a fun t => t.consoleOn a .a
  else if arg0 = 1 then s.routeEvent p a uid fun t => t.fromConsole a fun t => t.consoleOn a .b
  else s

/-- A delegate's selection (R23, R134): the listen code written, the station resolved, its spur refreshed. -/
def State.selectCode (s : State) (a : Addr) (c : Lang) : State :=
  (s.updStation a fun r => { r with listen := c }).listenTo a

/-- SELECT as handed up (R193). -/
def State.selectEvent (s : State) (p : SpurIx) (a : Addr) (uid : Uid) (arg0 : Byte) : State :=
  match toFin? 64 arg0.toNat with
  | some c => s.routeEvent p a uid fun t => t.fromDelegate a fun t => t.selectCode a c
  | none => s

/-! ## Outcomes of commands -/

/-- The outcome of an ASSIGN (R22). DESIGN CHOICE (log 53): when the record has joined again on another spur meanwhile,
the outcome counts for it, and a miss makes no entry of the other spur's list due. DESIGN CHOICE (log 62): the outcome
of an ASSIGN sent before a loss counts as well when the station is JOINING again on the same spur, where R34 calls it
ignored and R22 goes by the record. -/
def State.assignOutcome (s : State) (p : SpurIx) (a : Addr) (uid : Uid) (replied : Bool) : State :=
  let r := s.station a
  if r.state = .joining ∧ r.uid = uid then
    if replied then s.promote a
    else if r.missed + 1 < 3 then
      (s.updStation a fun x => { x with missed := x.missed + 1 }).updSpur p fun x =>
        { x with assign := x.assign.map fun e => if e.addr = a then { e with awaiting := false } else e }
    else
      ((s.updStation a fun _ => .initial).updSpur r.spur fun x =>
        { x with assign := x.assign.filter fun e => e.addr != a }).place (.station (.joinFailed uid r.spur))
  else s

/-- The outcome of any other addressed command (R31). DESIGN CHOICE (log 62): that of a command sent before a loss counts
when the record at its address is PRESENT again, where R34 calls it ignored and R31 goes by the record. -/
def State.commandOutcome (s : State) (p : SpurIx) (a : Addr) (b : CommandBody) (replied : Bool) : State :=
  let r := s.station a
  if r.state = .present then
    if replied then s.updStation a fun x => { x with missed := 0 }
    else if r.missed + 1 < 3 then
      (s.updStation a fun x => { x with missed := x.missed + 1 }).updSpur p fun x =>
        { x with retry := x.retry ++ [.to a b] }
    else s.lose a .noReply
  else s

/-- The outcome of the remembered command (R11): a broadcast and an empty window have none. -/
def State.replyOutcome (s : State) (p : SpurIx) (replied : Addr → Bool) : State :=
  let t : State := s.updSpur p fun x => { x with remembered := none }
  match (s.spur p).remembered with
  | some (.to a (.assign uid)) => t.assignOutcome p a uid (replied a)
  | some (.to a b) => t.commandOutcome p a b (replied a)
  | _ => t

/-! ## Timers -/

/-- The PRESENT station polled next (R32): the next above the last polled, else the lowest. -/
def State.nextPoll (s : State) (p : SpurIx) : Option Addr :=
  let present := s.presentOn p
  match (s.spur p).lastPolled with
  | none => present.head?
  | some l =>
    match present.find? fun a => l < a with
    | some a => some a
    | none => present.head?

/-- A poll timer fires (R32). -/
def State.firePoll (s : State) (p : SpurIx) : State :=
  let t : State := s.updSpur p fun x => { x with pollTimer := 0 }
  if (s.spur p).pollRequest.isSome then t
  else match s.nextPoll p with
    | some a => t.updSpur p fun x => { x with pollRequest := some a, lastPolled := some a }
    | none => t

/-- A LOST record's hold has elapsed (R36). -/
def State.expire (s : State) (a : Addr) : State :=
  (s.updStation a fun _ => .initial).place (.station (.expired a (s.station a).uid .holdElapsed))

/-! ## Links of a spur -/

/-- A spur enters DOWN (R12, R13). -/
def State.spurDown (s : State) (p : SpurIx) : State :=
  let t : State := s.updSpur p fun x =>
    { x with link := .initial, threshold := 0, sent := none, remembered := none }
  let t : State := (t.place (.station (.spurDown p))).loseSpur p
  t.updSpur p fun x => { x with assign := [], retry := [], pollRequest := none }

/-- A spur enters UP (R10, R12, R14). -/
def State.spurUp (s : State) (p : SpurIx) : State :=
  (s.updSpur p fun x =>
    { x.clearQueue with link := { up := true, failRun := 0, goodRun := 0 }, threshold := 0 }).place
    (.station (.spurUp p))

/-! ## Warm restart -/

/-- A spur at warm restart (R10, R15, R41): its link and counts stay, and the command still out is not taken back. Its
talk slots and listen slots are freed by their own blocks (R107, R144). -/
def Spur.restart (p : Spur) : Spur :=
  { p.clearQueue with
    threshold := 0, badCount := 0, retry := [], assign := [], pollRequest := none, pollTimer := 0,
    lastPolled := none }

/-- The registry's warm restart with the spur interfaces' (R190 step 1). -/
def State.registryRestart (s : State) : State :=
  { s with stations := .fill 192 .initial, spurs := s.spurs.map Spur.restart }

end Sys2Proof.Machine
end

