-- ==== Sys2Proof/Machine/Changeover.lean ====
section
/-! DEFINITION. The room map unit (Chapter 4): candidate maps (R58), the settings of new rooms (R59), the changeover
machine (R65 to R72) and its reports (R73), the chair's seat check (R63) and the warm restart (R75). -/

namespace Sys2Proof.Machine

/-! ## Candidate maps (R58) -/

/-- A label for each section while components are found: the lowest section known to be connected with it; a disabled
section has none. -/
abbrev Labels := Tab 16 (Option SecIx)

/-- Two sections joined by an effectively open wall take the lower of their labels. -/
def State.joinWall (s : State) (w : WallIx) (t : Labels) : Labels :=
  match (s.wall w).secA, (s.wall w).secB with
  | some i, some j =>
    if s.effOpen w then
      match t.get i, t.get j with
      | some x, some y => (t.set i (some (min x y))).set j (some (min x y))
      | _, _ => t
    else t
  | _, _ => t

/-- Every wall taken once. -/
def State.joinWalls (s : State) (t : Labels) : Labels := eachFin 24 s.joinWall t

/-- The components of the enabled sections, each section labelled with its component's lowest section (R58 step 1).
Sixteen rounds carry a label along any chain of sections. -/
def State.components (s : State) : Labels :=
  eachFin 16 (fun _ t => s.joinWalls t) (.ofFn fun i => if s.sections.get i then some i else none)

/-- The components by their lowest sections, ascending (R58 step 2). -/
def lowestSections (t : Labels) : List SecIx := finsWhere 16 fun i => t.get i == some i

/-- The ids claimed so far, each with the lowest section of its component. -/
abbrev Claims := List (SecIx × RoomIx)

/-- Whether an id has been claimed. -/
def Claims.has (c : Claims) (r : RoomIx) : Bool := c.any fun x => x.2 == r

/-- First pass (R58 step 3): the live id of the lowest section, when no earlier component has claimed it. -/
def firstPass (live : RoomMap) (lows : List SecIx) : Claims :=
  lows.foldl (fun c i =>
    match live.get i with
    | some r => if c.has r then c else c ++ [(i, r)]
    | none => c) []

/-- Second pass (R58 step 4): each component still without an id takes the lowest id not claimed. -/
def secondPass (lows : List SecIx) (c : Claims) : Claims :=
  lows.foldl (fun c i =>
    if c.any fun x => x.1 == i then c
    else match lowestFin 16 fun r => !c.has r with
      | some r => c ++ [(i, r)]
      | none => c) c

/-- The candidate map (R58). -/
def State.candidate (s : State) : RoomMap :=
  let t := s.components
  let c := secondPass (lowestSections t) (firstPass s.map.live (lowestSections t))
  .ofFn fun j => (t.get j).bind fun low => (c.find? fun x => x.1 == low).map Prod.snd

/-! ## Settings of new rooms (R59) -/

/-- Each field present replaces the value it stands for (R59 step 2, R62). -/
def RoomFields.apply (f : RoomFields) (r : Room) : Room where
  mode := f.mode.getD r.mode
  maxOpen := f.maxOpen.getD r.maxOpen
  autoAdvance := f.autoAdvance.getD r.autoAdvance
  speakLimit := f.speakLimit.getD r.speakLimit
  silenceTimeout := f.silenceTimeout.getD r.silenceTimeout
  silenceThreshold := f.silenceThreshold.getD r.silenceThreshold
  master := f.master.getD r.master
  inject := f.inject.getD r.inject
  injectCode := f.injectCode.getD r.injectCode
  language := f.language.getD r.language
  languageMode := f.languageMode.getD r.languageMode
  chair := f.chair.getD r.chair
  priorityMode := f.priorityMode.getD r.priorityMode

/-- The in-use profile whose section set equals a given one (R59 step 2). -/
def State.profileFor (s : State) (secs : SecSet) : Option (EntryIx × Profile) :=
  (lowestFin 32 fun e => ((s.map.profiles.get e).map Profile.secs) == some secs).bind fun e =>
    (s.map.profiles.get e).map fun p => (e, p)

/-- The record a changed id starts from, as it stood before (R59 step 1). -/
def State.startRecord (s : State) (new : RoomMap) (r : RoomIx) : Room :=
  match originOf s.map.live new r with
  | .claimed => s.room r
  | .copied q => s.room q
  | .defaults => .initial

/-- The chair dropped when its seat section is not in the room (R59 step 3). -/
def State.checkChair (s : State) (new : RoomMap) (r : RoomIx) (x : Room) : Room :=
  match x.chair with
  | some a => if s.seatIn new r a then x else { x with chair := none }
  | none => x

/-- A changed record before its chair is checked (R59 steps 1 and 2). -/
def State.profiledRecord (s : State) (new : RoomMap) (r : RoomIx) : Room :=
  match s.profileFor (sectionSet new r) with
  | some (_, p) => p.fields.apply (s.startRecord new r)
  | none => s.startRecord new r

/-- A changed record (R59). -/
def State.builtRecord (s : State) (new : RoomMap) (r : RoomIx) : Room :=
  s.checkChair new r (s.profiledRecord new r)

/-- Every record of a new map (R59): changed ids rebuilt, all others kept. -/
def State.builtRooms (s : State) (new : RoomMap) : Tab 16 Room :=
  .ofFn fun r => if (changedIds s.map.live new).contains r then s.builtRecord new r else s.room r

/-- The MAP reports of a swap or direct recompute (R73): ROOM for each changed id, then CLOSED, ascending. -/
def State.swapReports (s : State) (new : RoomMap) (direct : Bool) : List Report :=
  ((changedIds s.map.live new).map fun r =>
    let x := s.profiledRecord new r
    let y := s.builtRecord new r
    .map (.room r (sectionSet new r) (originOf s.map.live new r)
      ((s.profileFor (sectionSet new r)).map Prod.fst) y.chair (x.chair.isSome && y.chair.isNone) direct)) ++
  (closedIds s.map.live new).map fun r => .map (.closed r direct)

/-- The mix engine takes a swap (R150): applied codes and clip counts stay with their ids. -/
def State.mixSwap (s : State) : State := s

/-- A new map takes effect (R69 steps 1 to 5, R72): the records rebuilt, the map live, the MAP reports placed, and the
swap handed to the floor controller, the interpretation unit, the listening unit and the mix engine, in that order.
DESIGN CHOICE (log 63): a grant in the floor controller's own advance pass (R105) that changes a floor language is
evaluated at once (R101, R114), before the interpretation unit takes the swap, and takes up the new map and the rebuilt
floor languages that R127 and R128 leave to the swap's own evaluation. -/
def State.install (s : State) (new : RoomMap) (direct : Bool) : State :=
  let t : State := { s with map := { s.map with live := new, shadow := none, rooms := s.builtRooms new } }
  let t : State := t.placeAll (s.swapReports new direct)
  (((t.floorSwap s).boothSwap).listenSwap).mixSwap

/-! ## The changeover machine -/

/-- The phase written. -/
def State.setPhase (s : State) (p : Phase) : State := { s with map := { s.map with phase := p } }

/-- The recompute flag written (R70). -/
def State.setFlag (s : State) (x : Bool) : State := { s with map := { s.map with flag := x } }

/-- The rooms of a map, each with its section set, which MAP PENDING carries (R73). DESIGN CHOICE (log 60): R73 gives
them no order, and they are listed in ascending id order. -/
def roomsOf (m : RoomMap) : List (RoomIx × SecSet) :=
  (finsWhere 16 fun r => activeIn m r).map fun r => (r, sectionSet m r)

/-- The enabled sections differ from those that have a room (R65). -/
def State.serviceChange (s : State) : Bool :=
  (lowestFin 16 fun i => s.sections.get i != (s.map.live.get i).isSome).isSome

/-- PENDING with a candidate as the shadow and a full settle count (R66). -/
def State.enterPending (s : State) (c : RoomMap) : State :=
  { s with map := { s.map with phase := .pending, shadow := some c, settleCount := s.map.settle } }

/-- A request without a service change in STEADY (R66). -/
def State.requestSteady (s : State) : State :=
  let c := s.candidate
  if c = s.map.live then s else (s.enterPending c).place (.map (.pending s.map.settle (roomsOf c)))

/-- A request without a service change in PENDING (R66). -/
def State.requestPending (s : State) : State :=
  let c := s.candidate
  if c = s.map.live then
    let t : State := { s with map := { s.map with phase := .steady, shadow := none, settleCount := 0 } }
    t.place (.map .cancelled)
  else s.enterPending c

/-- What an abandoned changeover leaves (R72, R75): no shadow, no count, no affected id, no force, no flag. -/
def MapUnit.abandon (m : MapUnit) : MapUnit :=
  { m with phase := .steady, shadow := none, settleCount := 0, affected := .fill 16 false, met := .fill 16 false,
           flag := false }

/-- A direct recompute (R72). -/
def State.directRecompute (s : State) : State :=
  let t : State := { s with map := s.map.abandon }
  let new := t.candidate
  (t.install new true).changeoverEnd (changedIds s.map.live new)

/-- The machine takes a recompute request (R65, R66, R70, R72). -/
def State.recompute (s : State) : State :=
  if s.serviceChange then s.directRecompute
  else match s.map.phase with
    | .steady => s.requestSteady
    | .pending => s.requestPending
    | .fadeOut => s.setFlag true
    | .fadeIn => s.setFlag true
    | .swap => s

/-- The ids whose section set differs between the live map and the shadow map (R68). -/
def affectedBy (live shadow : RoomMap) : Tab 16 Bool := .ofFn fun r => sectionSet live r != sectionSet shadow r

/-- The ids of a set, which MAP FADE_OUT (R73) and MAP_QUERY (R74) carry. DESIGN CHOICE (log 60): the rules give them no
order, and they are listed ascending. -/
def idsOf (t : Tab 16 Bool) : List RoomIx := finsWhere 16 t.get

/-- Entry to FADE_OUT (R68): the affected ids fixed, which forces their targets, and MAP FADE_OUT placed. -/
def State.enterFadeOut (s : State) (shadow : RoomMap) : State :=
  let ids := affectedBy s.map.live shadow
  let t : State := { s with map := { s.map with phase := .fadeOut, affected := ids, settleCount := 0 } }
  t.place (.map (.fadeOut (idsOf ids)))

/-- An epoch boundary (R67). -/
def State.boundary (s : State) : State :=
  match s.map.phase, s.map.shadow with
  | .pending, some shadow =>
    if s.map.settleCount = 0 then s.enterFadeOut shadow
    else { s with map := { s.map with settleCount := s.map.settleCount - 1 } }
  | _, _ => s

/-- FADE_OUT has met its test (R68): the applied code of every affected id is 0. -/
def State.fadedOut (s : State) : Bool :=
  s.map.phase == .fadeOut && (List.finRange 16).all fun r => !s.map.affected.get r || s.mix.applied.get r == 0

/-- FADE_IN has met its test (R71): every affected ACTIVE id has met its target since the swap. -/
def State.fadedIn (s : State) : Bool :=
  s.map.phase == .fadeIn && (List.finRange 16).all fun r => !s.map.affected.get r || !s.active r || s.map.met.get r

/-- A room's contributing sources (R147), in grant order. -/
def State.sources (s : State) (r : RoomIx) : List Addr :=
  if s.overrideActive then []
  else if s.floor.priority.get r then (s.speakers r).filter fun a => s.isChair r a
  else s.speakers r

/-- The NOM attenuation of n open microphones, in codes (R147). -/
def nom (n : Nat) : Nat := [0, 0, 6, 10, 12, 14, 16, 17, 18, 19].getD n 19

/-- A section of the room has a standing mute (R172). -/
def State.mutedRoom (s : State) (r : RoomIx) : Bool :=
  (lowestFin 16 fun i => s.map.live.get i == some r && s.muteStands i).isSome

/-- The target code of an id from the tables as they stand (R148). -/
def State.targetCode (s : State) (r : RoomIx) : Nat :=
  if !s.active r || s.forced r || (s.room r).master == 0 || s.mutedRoom r || s.overrideActive then 0
  else max 1 ((s.room r).master.toNat - nom (s.sources r).length)

/-- The ids that meet their target at a test of FADE_IN, added to those that have (R71). -/
def State.noteMet (s : State) (target : RoomIx → Nat) : State :=
  { s with map := { s.map with met := .ofFn fun r => s.map.met.get r || s.mix.applied.get r == target r } }

/-- The end of FADE_OUT (R69): SWAP, and entry to FADE_IN with its first test (R71). -/
def State.endFadeOut (s : State) : State :=
  match s.map.shadow with
  | none => s
  | some shadow =>
    let t : State := ((s.setPhase .swap).install shadow false).setPhase .fadeIn
    let t : State := { t with map := { t.map with met := .fill 16 false } }
    t.noteMet t.targetCode

/-- The end of FADE_IN (R71): COMPLETE, the held presses, and STEADY, or a further request when the flag is set. -/
def State.endFadeIn (s : State) : State :=
  let ids := idsOf s.map.affected
  let t : State := { s with map := { s.map with affected := .fill 16 false, met := .fill 16 false } }
  let t : State := ((t.place (.map .complete)).changeoverEnd ids).setPhase .steady
  if t.map.flag then (t.setFlag false).requestSteady else t

/-! ## The seat check and the warm restart -/

/-- The seat check of one room (R63), after a station's section has changed; `before` is the state before. -/
def State.seatCheckRoom (a : Addr) (before : State) (r : RoomIx) (s : State) : State :=
  if (s.room r).chair == some a && !s.seatIn s.map.live r a then
    ((s.updRoom r fun x => { x with chair := none }).chairChange before r (some a) none .moved).endFloorEvent
  else s

/-- The seat check (R63). DESIGN CHOICE (log 46): where several records name the station, in ascending id order. -/
def State.seatCheck (s : State) (before : State) (a : Addr) : State := eachFin 16 (State.seatCheckRoom a before) s

/-- The room map unit's warm restart (R75): the changeover abandoned, the live map computed, changed records rebuilt,
and every chair checked. Nothing is reported or handed on. -/
def State.mapRestart (s : State) : State :=
  let t : State := { s with map := s.map.abandon }
  let new := t.candidate
  let rooms := Tab.ofFn fun r => t.checkChair new r ((t.builtRooms new).get r)
  { t with map := { t.map with live := new, rooms := rooms } }

end Sys2Proof.Machine
end

