-- ==== Sys2Proof/Machine/Override.lean ====
section
/-! DEFINITION. Emergency announcement and room mute (Chapter 9): what follows a change of an override source (R166 to
R170) and of a room-mute line (R172), and the warm restart (R174). -/

namespace Sys2Proof.Machine

/-- The kind of an override transition (R168), or none when override stands on neither side. -/
def overrideKind (before after : Bool) : Option OverrideKind :=
  match before, after with
  | false, true => some .start
  | true, false => some .stop
  | true, true => some .changed
  | false, false => none

/-- An OVERRIDE report on the source set (R168). -/
def State.overrideReport (s : State) (k : OverrideKind) (cause : Reason) (line : Option LineIx) : Report :=
  .override (.sources k cause line s.override.source s.overrideLines s.override.code)

/-- The lamps of a start or end of override: the floor controller, then the interpretation unit (R168 to R170). -/
def State.overrideLamps (s : State) (before : State) : State :=
  (s.overrideFloorLamps before).overrideConsoleLamps before

/-- After a change of the source set (R168): the report, and at a start or an end the lamps; `before` is the state
before the change. -/
def State.overrideTransition (s : State) (before : State) (cause : Reason) (line : Option LineIx) : State :=
  match overrideKind before.overrideActive s.overrideActive with
  | none => s
  | some k =>
    let t : State := s.place (s.overrideReport k cause line)
    match k with
    | .changed => t
    | .start => t.overrideLamps before
    | .stop => t.overrideLamps before

/-- After a change of a ROOM_MUTE line (R172): MUTE_ON or MUTE_OFF when the standing of the section changed. -/
def State.muteTransition (s : State) (before : State) (sec : SecIx) (line : LineIx) (cause : Reason) : State :=
  if before.muteStands sec = s.muteStands sec then s
  else s.place (.override (.mute (s.muteStands sec) sec (s.secRoom (some sec)) line cause (s.muteLines sec)))

/-- A change of a line of some function handed to the logic it drives (R44, R46): override, room mute, or neither. -/
def State.lineTransition (s : State) (before : State) (fn : LineFunction) (line : LineIx) (cause : Reason) : State :=
  match fn with
  | .unused => s
  | .wall _ => s
  | .override => s.overrideTransition before cause (some line)
  | .roomMute sec => s.muteTransition before sec line cause

/-- ANNOUNCE carried out (R167): the code, the directive source, and R168 when the source changed. -/
def State.announce (s : State) (on : Bool) (code : Option Byte) : State :=
  let t : State := { s with override := { source := on, code := code.getD s.override.code } }
  if s.override.source = on then t else t.overrideTransition s .directive none

/-- The override logic's warm restart (R174): the directive source OFF, the code kept. The sources and standings are
derived from the lines (R165, R172), which are kept (R55). -/
def State.overrideRestart (s : State) : State := { s with override := { s.override with source := false } }

end Sys2Proof.Machine
end

