-- ==== Sys2Proof/Machine/Lines.lean ====
section
/-! DEFINITION. Contact lines, sections and walls (Chapter 3): sampling (R16, R43), the debounced change and the re-read
(R44, R50), a wall's state (R51, R53), and the writes of LINE_SET, SECTION_SET and WALL_SET (R45 to R48, R52). -/

namespace Sys2Proof.Machine

/-! ## Sampling -/

/-- The electrical level a line reads (01, section 1.9 note 1). -/
def readLevel (x : LineLevel) (last : Bool) : Bool :=
  match x with
  | .low => false
  | .high => true
  | .between => last

/-- A level as raw active or inactive under a polarity (R42). -/
def Polarity.active (p : Polarity) (level : Bool) : Bool :=
  match p with
  | .activeLow => !level
  | .activeHigh => level

/-- The debounce in samples (R43). -/
def Line.threshold (l : Line) : Nat := l.debounce.toNat * Config.framesPerMs

/-- A new sample (R43): the level, last raw and the stability count, and whether the sample makes the debounced change
and the re-read due. -/
def Line.sample (x : LineLevel) (l : Line) : Line :=
  let level := readLevel x l.level
  let raw := l.polarity.active level
  let count := if raw = l.lastRaw then min (l.count + 1) Config.stabilityMax else 1
  let settled := l.threshold ≤ count
  { l with
    level := level, lastRaw := raw, count := count, changeDue := raw != l.debounced && settled,
    rereadDue := l.reread && settled }

/-- The first sample after power-on gives last raw (R42), so that it is no raw change. DEDUCED (log 58): it counts as the
first of the consecutive samples of R42's note 2, so that the stability count is 1 after it. -/
def Line.firstSample (x : LineLevel) (l : Line) : Line :=
  Line.sample x { l with lastRaw := l.polarity.active (readLevel x l.level) }

/-! ## Walls -/

/-- The WALL report of a wall as it stands (R53). -/
def State.wallReport (s : State) (w : WallIx) (source : Option LineIx) : Report :=
  let x := s.wall w
  .wall ⟨w, x.isOpen, source, x.inUse, x.permission, s.effOpen w⟩

/-- A wall's state written (R53): when it differs, the change flag and a WALL report. -/
def State.setWallState (s : State) (w : WallIx) (isOpen : Bool) (source : Option LineIx) : State :=
  if (s.wall w).isOpen = isOpen then s
  else
    let t : State := s.updWall w fun x => { x with isOpen := isOpen, changed := true }
    t.place (t.wallReport w source)

/-- A wall takes its state from its contact line (R50), with the recompute request of R51 when its effective openness
changed. -/
def State.wallFromLine (s : State) (w : WallIx) (isOpen : Bool) (line : LineIx) : State :=
  let t : State := s.setWallState w isOpen (some line)
  if s.effOpen w = t.effOpen w then t else t.recompute

/-- The debounced change of a line (R43 step 2, R44). -/
def State.debouncedChange (s : State) (l : LineIx) : State :=
  let x := s.line l
  let t : State := s.updLine l fun x => { x with debounced := x.lastRaw, changeDue := false }
  match x.fn with
  | .wall w => t.wallFromLine w x.lastRaw l
  | f => t.lineTransition s f l .line

/-- The re-read of a re-assigned WALL line (R43 step 3, R50). -/
def State.reread (s : State) (l : LineIx) : State :=
  let x := s.line l
  let t : State := s.updLine l fun x => { x with debounced := x.lastRaw, reread := false, rereadDue := false, changeDue := false }
  match x.fn with
  | .wall w => t.wallFromLine w x.lastRaw l
  | _ => t

/-! ## LINE_SET -/

/-- The wall a line of function WALL drives. -/
def LineFunction.wallTarget : LineFunction → Option WallIx
  | .wall w => some w
  | _ => none

/-- Another line already has function WALL with this function's target wall (R42, R45). -/
def State.wallTaken (s : State) (l : LineIx) (fn : LineFunction) : Bool :=
  match fn.wallTarget with
  | none => false
  | some w => (lowestFin 24 fun m => m != l && (s.line m).fn == .wall w).isSome

/-- A wall's contact line written. -/
def State.setContact (s : State) (w : Option WallIx) (l : Option LineIx) : State :=
  match w with
  | none => s
  | some w => s.updWall w fun x => { x with contact := l }

/-- A line re-assigned (R46): the old wall loses its contact line, the debounced state and count start again, the new
wall takes the line; an active OVERRIDE or ROOM_MUTE line's condition ends with cause REASSIGNED. -/
def State.reassign (s : State) (before : State) (l : LineIx) (fn : LineFunction) : State :=
  let old := (before.line l).fn
  let t : State := s.setContact old.wallTarget none
  let t : State := t.updLine l fun x =>
    { x with fn := fn, debounced := false, count := 0, reread := fn.wallTarget.isSome, changeDue := false,
             rereadDue := false }
  let t : State := t.setContact fn.wallTarget (some l)
  if (before.line l).debounced then t.lineTransition before old l .reassigned else t

/-- LINE_SET carried out (R45 to R47): polarity and debounce are written first. -/
def State.lineSet (s : State) (l : LineIx) (fn : Option LineFunction) (pol : Option Polarity) (deb : Option Byte) :
    State :=
  let t : State := s.updLine l fun x =>
    { x with polarity := pol.getD x.polarity, debounce := deb.getD x.debounce }
  match fn with
  | none => t
  | some f => if f = (s.line l).fn then t else t.reassign s l f

/-! ## SECTION_SET and WALL_SET -/

/-- SECTION_SET carried out (R48): every pair written, then one recompute request when a value changed. -/
def State.sectionWrite (s : State) (pairs : List (SecIx × Bool)) : State :=
  let t : State := { s with sections := pairs.foldl (fun x p => x.set p.1 p.2) s.sections }
  if s.sections = t.sections then t else t.recompute

/-- The wall as it would stand after a WALL_SET's writes, its state apart (R52). -/
def Wall.written (x : Wall) (inUse : Option Bool) (secA secB : Option (Option SecIx)) (perm : Option Permission) :
    Wall :=
  { x with
    inUse := inUse.getD x.inUse, secA := secA.getD x.secA, secB := secB.getD x.secB,
    permission := perm.getD x.permission }

/-- A wall that WALL_SET may leave (R52): both sections when in use, and two sections that differ. -/
def Wall.sound (x : Wall) : Bool :=
  !(x.inUse && (x.secA.isNone || x.secB.isNone)) && !(x.secA.isSome && x.secA == x.secB)

/-- WALL_SET carried out (R51 to R53): the fields, the state with its report, then at most one recompute request. DESIGN
CHOICE (log 43): sections a and b exchanged count as a change of the pair, and raise the request. -/
def State.wallWrite (s : State) (w : WallIx) (new : Wall) (isOpen : Option Bool) : State :=
  let t : State := s.updWall w fun _ => new
  let t : State := match isOpen with
    | some x => t.setWallState w x none
    | none => t
  let moved := (s.wall w).secA != new.secA || (s.wall w).secB != new.secB
  if s.effOpen w != t.effOpen w || (t.effOpen w && moved) then t.recompute else t

/-- The change flags of walls that a WALL_QUERY has read cleared (R54). -/
def State.clearWallFlags (s : State) (ws : List WallIx) : State :=
  ws.foldl (fun t w => t.updWall w fun x => { x with changed := false }) s

end Sys2Proof.Machine
end

