-- ==== Sys2Proof/Machine/Mix.lean ====
section
/-! DEFINITION. The mix engine (Chapter 8): the frame computation (R145) with its targets and ramp (R147 to R149), floors
(R151 to R154), channels (R155), feeds (R156), override output (R158), envelopes (R160) and the silence counts the floor
controller takes from them (R99); the warm restart (R164). -/

namespace Sys2Proof.Machine

/-! ## Arithmetic -/

/-- The sample of a station's talk slot in the period; none when it holds no slot. -/
def State.talkSample (s : State) (a : Addr) : Option Sample :=
  let r := s.station a
  r.talk.map fun k => (s.spur r.spur).talkIn.get k

/-- A sample in its range, and whether the clamp acted (R153). -/
def clampSample (x : Int) : Sample × Bool :=
  if x > 8388607 then (8388607, true) else if x < -8388608 then (-8388608, true) else (x, false)

/-- The accumulator scaled by the factor of the applied code, halves toward the higher sample (R152). -/
def scaleFloor (acc : Int) (factor : Nat) : Int := (acc * factor + 2147483648) / 4294967296

/-- One sample scaled by one factor, halves toward the higher sample (R155, R158). -/
def scaleOne (x : Sample) (factor : Nat) : Int := (x * factor + 32768) / 65536

/-- The applied code one step nearer its target (R149). -/
def stepCode (applied target : Nat) : Nat :=
  if applied < target then applied + 1 else if target < applied then applied - 1 else applied

/-! ## Floors -/

/-- The product of one contributing source (R151). -/
def State.product (s : State) (a : Addr) : Int :=
  ((s.talkSample a).getD 0) * gain (s.station a).trim.toNat

/-- The inject product of a room (R151). -/
def State.injectProduct (s : State) (r : RoomIx) : Int :=
  match (s.room r).inject with
  | some i => s.trunk.inject.get i * gain (s.room r).injectCode.toNat
  | none => 0

/-- A room's accumulator (R151), the exact sum of its products. -/
def State.accumulator (s : State) (r : RoomIx) : Int :=
  ((s.sources r).map s.product).sum + s.injectProduct r

/-- The floor of an ACTIVE room from its accumulator and applied code (R152, R153). -/
def floorSample (acc : Int) (applied : Nat) : Sample × Bool := clampSample (scaleFloor acc (gain applied))

/-- The override sample (R158). -/
def State.overrideSample (s : State) : Sample × Bool :=
  clampSample (scaleOne (s.trunk.inject.get 0) (gain s.override.code.toNat))

/-- A room id's floor output (R151 to R153, R158), and whether a clamp acted; 0 for an IDLE id. -/
def State.floorOut (s : State) (applied : Tab 16 Nat) (r : RoomIx) : Sample × Bool :=
  if !s.active r then (0, false)
  else if s.overrideActive then s.overrideSample
  else floorSample (s.accumulator r) (applied.get r)

/-! ## Channels and feeds -/

/-- The console standing on the output of the owning booth that names a channel (R155). -/
def State.voiceOf (s : State) (l : ChanIx) : Option Addr :=
  (s.owner l).bind fun b => if (s.booth b).outA == some l then (s.booth b).onA else (s.booth b).onB

/-- The console output of a channel, and whether its clamp acted (R155). -/
def State.consoleOut (s : State) (l : ChanIx) : Sample × Bool :=
  match s.voiceOf l with
  | some a => clampSample (scaleOne ((s.talkSample a).getD 0) (gain (s.station a).trim.toNat))
  | none => (0, false)

/-- A channel's output, and whether the clamp of a SERVED channel acted (R155, R158). -/
def State.channelOut (s : State) (floors : Tab 16 Sample) (l : ChanIx) : Sample × Bool :=
  let c := s.channel l
  if s.overrideActive then (s.overrideSample.1, false)
  else if c.parked then (0, false)
  else match c.state with
    | .dark => (0, false)
    | .served => s.consoleOut l
    | .floorFollow => ((c.room.map floors.get).getD 0, false)
    | .idle => ((c.room.map floors.get).getD 0, false)

/-- A booth's feed (R156, R158). -/
def State.feedOut (s : State) (floors : Tab 16 Sample) (channels : Tab 12 Sample) (b : BoothIx) : Sample :=
  if s.overrideActive then s.overrideSample.1
  else match (s.booth b).input with
    | .nothing => 0
    | .floor => ((s.booth b).room.map floors.get).getD 0
    | .relay l => channels.get l

/-! ## The frame computation -/

/-- Whether a clamp counted against an id acted in a computation (R154). -/
def State.clipped (s : State) (applied : Tab 16 Nat) (floors : Tab 16 Sample) (r : RoomIx) : Bool :=
  (s.floorOut applied r).2 ||
    (lowestFin 12 fun l => (s.channel l).room == some r && (s.channelOut floors l).2).isSome

/-- The mix engine's codes, samples and clip counts of one frame computation (R148, R149, R151 to R158). -/
def State.mixed (s : State) : MixUnit :=
  let target := Tab.ofFn s.targetCode
  let applied := Tab.ofFn fun r => stepCode (s.mix.applied.get r) (target.get r)
  let floors := Tab.ofFn fun r => (s.floorOut applied r).1
  let channels := Tab.ofFn fun l => (s.channelOut floors l).1
  { target := target, applied := applied, floors := floors, channels := channels,
    feeds := .ofFn fun b => s.feedOut floors channels b,
    clip := .ofFn fun r =>
      if s.clipped applied floors r then min (s.mix.clip.get r + 1) Config.countMax else s.mix.clip.get r }

/-- The envelope after one more sample (R160). -/
def stepEnvelope (envelope : Nat) (x : Sample) : Nat := max x.natAbs (envelope - envelope / 1024)

/-- Every envelope updated (R160). -/
def State.stepEnvelopes (s : State) : State :=
  { s with stations := .ofFn fun a =>
      match s.talkSample a with
      | some x => { s.station a with envelope := stepEnvelope (s.station a).envelope x }
      | none => s.station a }

/-- The silence frames of a delegate whose envelope is compared with a level (R99). -/
def stepSilence (silence envelope level : Nat) : Nat :=
  if envelope < level then min (silence + 1) Config.silenceMax else 0

/-- The silence frames of every ON_AIR delegate other than its room's chair (R99, R162). -/
def State.stepSilences (s : State) : State :=
  { s with stations := .ofFn fun a =>
      let r := s.station a
      match s.timedRoom a with
      | some k => { r with silence := stepSilence r.silence r.envelope (silenceLevel (s.room k).silenceThreshold) }
      | none => r }

/-- The frame computation (R145), with the test of FADE_IN that follows it (R71) and the silence count (R99). -/
def State.compute (s : State) : State :=
  let t : State := ({ s with mix := s.mixed }).stepEnvelopes.stepSilences
  if t.map.phase = .fadeIn then t.noteMet t.mix.target.get else t

/-- The mix engine's warm restart (R164); every record is EMPTY, so its envelope is 0. The samples are formed again by
the next computation. -/
def State.mixRestart (s : State) : State :=
  { s with mix := { s.mix with applied := .fill 16 0, clip := .fill 16 0 } }

end Sys2Proof.Machine
end

