-- ==== Sys2Proof/Machine/Wire.lean ====
section
/-! DEFINITION. The wire formats of Chapter 11: the link check (R192), the frames received, the frames sent (11.2, 11.3),
station commands and events (11.4, R193), and the report frame (R195). -/

namespace Sys2Proof.Machine

/-! ## Numbers -/

/-- A number's low byte. -/
def u8 (n : Nat) : List Byte := [BitVec.ofNat 8 n]

/-- A number in two bytes, most significant first. -/
def u16 (n : Nat) : List Byte := u8 (n / 256) ++ u8 n

/-- A number in three bytes, most significant first. -/
def u24 (n : Nat) : List Byte := u8 (n / 65536) ++ u16 n

/-- A number in four bytes, most significant first. -/
def u32 (n : Nat) : List Byte := u16 (n / 65536) ++ u16 n

/-- A uid in six bytes (11.1). -/
def uidBytes (u : Uid) : List Byte := u24 (u.toNat / 16777216) ++ u24 u.toNat

/-- A sample in three bytes, two's complement (11.1). -/
def sampleBytes (x : Sample) : List Byte := u24 (BitVec.ofInt 24 x).toNat

/-- Bytes as a number, most significant first. -/
def bigEndian (bs : List Byte) : Nat := bs.foldl (fun acc b => acc * 256 + b.toNat) 0

/-- Three bytes as a sample. -/
def sampleOf (bs : List Byte) : Sample := (BitVec.ofNat 24 (bigEndian bs)).toInt

/-- n samples from the front of a byte string. -/
def samplesOf (n : Nat) (bs : List Byte) : Tab n Sample := .ofFn fun i => sampleOf ((bs.drop (3 * i.val)).take 3)

/-! ## The link check (R192) -/

/-- One bit taken into the check. -/
def checkBit (c : BitVec 16) (b : Bool) : BitVec 16 :=
  if c.msb != b then (c <<< 1) ^^^ 0x1021 else c <<< 1

/-- One byte taken into the check, most significant bit first. -/
def checkByte (c : BitVec 16) (b : Byte) : BitVec 16 :=
  (List.range 8).foldl (fun c i => checkBit c (b.getMsbD i)) c

/-- The link check over a byte string (R192). -/
def linkCheck (bs : List Byte) : BitVec 16 := bs.foldl checkByte 0xFFFF

/-- A frame's bytes from its start word and its fields, with the check over the fields (R192). -/
def frameBytes (start : Nat) (fields : List Byte) : List Byte :=
  u16 start ++ fields ++ u16 (linkCheck fields).toNat

/-- How a frame period is classified (R3, R8); a good frame comes with its bytes between start word and check. -/
inductive Arrival where
  | good (fields : List Byte)
  | failed
  | absent
  deriving DecidableEq, Repr

/-- The classification of what was found at a frame's expected position (R192). -/
def classify (start size : Nat) (rx : Option (List Byte)) : Arrival :=
  match rx with
  | none => .absent
  | some bs =>
    if bs.take 2 ≠ u16 start then .absent
    else
      let fields := (bs.drop 2).take (size - 4)
      if bs.length = size ∧ bs.drop (size - 2) = u16 (linkCheck fields).toNat then .good fields else .failed

/-! ## Downstream trunk frames -/

/-- The inject samples of a downstream trunk frame's fields (11.2). -/
def trunkInject (fields : List Byte) : Tab 4 Sample := samplesOf 4 fields

/-- The lane bytes of a downstream trunk frame's fields: the positions whose valid bit is set, in order (R192). -/
def trunkLaneBytes (fields : List Byte) : List Byte :=
  let valid := (fields.drop 16).headD 0
  ((List.range 4).filter fun i => valid.getLsbD i).filterMap fun i => (fields.drop (12 + i)).head?

/-! ## Upstream spur frames -/

/-- The talk slots of an upstream spur frame's fields (11.3). -/
def spurTalk (fields : List Byte) : Tab 16 Sample := samplesOf 16 fields

/-- The replying address of the reply window (11.3); 0 is an empty window. -/
def spurReply (fields : List Byte) : Byte := (fields.drop 48).headD 0

/-- What the event window of a good frame gives (R10): the threshold F of the next frame, and the station event handed
to the registry, if any. An event kind outside the table of 11.4 is discarded by R193 and handed to nobody. -/
def eventWindow (p : SpurIx) (fields : List Byte) : Nat × Option Instr :=
  let byte := fun i => (fields.drop i).headD 0
  let uid : Uid := BitVec.ofNat 48 (bigEndian ((fields.drop 53).take 6))
  let value := (byte 52).toNat
  let kind := (byte 59).toNat
  if byte 51 ≠ 0 then (0, none)
  else if value = 255 then (0, if kind = 0x10 then some (.join p uid (byte 60) (byte 61)) else none)
  else match toFin? 192 (value - 1) with
    | none => (0, none)
    | some a =>
      if value = 0 then (0, none)
      else
        (value + 1,
          match kind with
          | 0x11 => some (.press p a uid)
          | 0x12 => some (.release p a uid)
          | 0x13 => some (.cancel p a uid)
          | 0x14 => some (.next p a uid)
          | 0x15 => some (.priorityPress p a uid)
          | 0x16 => some (.priorityRelease p a uid)
          | 0x17 => some (.consoleOn p a uid (byte 60))
          | 0x18 => some (.consoleOff p a uid)
          | 0x19 => some (.select p a uid (byte 60))
          | _ => none)

/-! ## Codes of named values -/

/-- A two-valued field of the yes/no kind (11.1). -/
def yesNo (b : Bool) : List Byte := if b then [1] else [0]

/-- A number whose none is 0xFF (11.1). -/
def orFF (x : Option Nat) : List Byte := u8 (x.getD 0xFF)

/-- A station address, or none as 0x00 (11.1). -/
def addrByte (a : Option Addr) : List Byte := u8 ((a.map fun a => a.val + 1).getD 0)

/-- An index from 0, or none as 0xFF (11.1). -/
def index {n : Nat} (x : Option (Fin n)) : List Byte := orFF (x.map Fin.val)

/-- A booth or channel number, counted from 1, or none as 0xFF (11.1). -/
def number {n : Nat} (x : Option (Fin n)) : List Byte := orFF (x.map fun i => i.val + 1)

/-- A booth with console (11.1). -/
def seatBytes (x : Option (BoothIx × ConsoleIx)) : List Byte := number (x.map Prod.fst) ++ number (x.map Prod.snd)

/-- A presence byte, with the field when it follows (R195). -/
def present {α : Type} (f : α → List Byte) (x : Option α) : List Byte :=
  match x with
  | none => [0]
  | some x => 1 :: f x

/-- A list after its count (R195). -/
def listOf {α : Type} (f : α → List Byte) (xs : List α) : List Byte := u8 xs.length ++ xs.flatMap f

/-- Lamp states (11.4). -/
def Lamp.code : Lamp → Nat
  | .off => 0
  | .requested => 1
  | .next => 2
  | .onAir => 3
  | .warning => 4
  | .muted => 5
  | .refused => 6
  | .standby => 7
  | .unplaced => 8

/-- Reasons and causes share one code space (11.6). -/
def Reason.code : Reason → Nat
  | .press => 0x01
  | .chair => 0x02
  | .auto => 0x03
  | .next => 0x04
  | .directive => 0x05
  | .merge => 0x06
  | .released => 0x07
  | .replaced => 0x08
  | .reclaimed => 0x09
  | .priority => 0x0A
  | .time => 0x0B
  | .silence => 0x0C
  | .limit => 0x0D
  | .lost => 0x0E
  | .moved => 0x0F
  | .noRoom => 0x10
  | .cancelled => 0x11
  | .poolFull => 0x12
  | .noSlot => 0x13
  | .empty => 0x14
  | .atLimit => 0x15
  | .mute => 0x16
  | .clear => 0x17
  | .swap => 0x18
  | .takeover => 0x19
  | .switch => 0x1A
  | .dark => 0x1B
  | .outputRemoved => 0x1C
  | .unbound => 0x1D
  | .noOutput => 0x1E
  | .locked => 0x1F
  | .console => 0x20
  | .floorLanguage => 0x21
  | .loss => 0x22
  | .spurFull => 0x23
  | .noAddress => 0x24
  | .noReply => 0x25
  | .spurDown => 0x26
  | .rejoin => 0x27
  | .rebound => 0x28
  | .holdElapsed => 0x29
  | .line => 0x2A
  | .reassigned => 0x2B
  | .check => 0x2C
  | .length => 0x2D

/-- Result codes (11.6). -/
def ResultCode.code : ResultCode → Nat
  | .ok => 0
  | .okClamped => 1
  | .badLength => 2
  | .badField => 3
  | .conflict => 4
  | .notFound => 5
  | .busy => 6

/-- Station record states, by their position in R17. -/
def RecordState.code : RecordState → Nat
  | .empty => 0
  | .joining => 1
  | .present => 2
  | .lost => 3

/-- Station kinds, by their position in R17 (11.4). -/
def Kind.code : Kind → Nat
  | .delegate => 0
  | .console => 1

/-- Mic states, by their position in R18. -/
def Mic.code : Mic → Nat
  | .off => 0
  | .queued => 1
  | .onAir => 2

/-- Phases of the changeover machine, by their position in R65. -/
def Phase.code : Phase → Nat
  | .steady => 0
  | .pending => 1
  | .fadeOut => 2
  | .swap => 3
  | .fadeIn => 4

/-- Permissions, by their position in R49. -/
def Permission.code : Permission → Nat
  | .auto => 0
  | .forceClosed => 1
  | .forceOpen => 2

/-- Wall states, by their position in R49: OPEN is 0. -/
def wallState (isOpen : Bool) : List Byte := u8 (if isOpen then 0 else 1)

/-- Polarities, by their position in R42. -/
def Polarity.code : Polarity → Nat
  | .activeLow => 0
  | .activeHigh => 1

/-- Line functions, by their position in R42. -/
def LineFunction.code : LineFunction → Nat
  | .unused => 0
  | .wall _ => 1
  | .override => 2
  | .roomMute _ => 3

/-- The target byte of a line function (11.5): 0xFF where it has none. -/
def LineFunction.target : LineFunction → Option Nat
  | .unused => none
  | .wall w => some w.val
  | .override => none
  | .roomMute s => some s.val

/-- Floor modes, by their position in R57. -/
def FloorMode.code : FloorMode → Nat
  | .openFloor => 0
  | .replace => 1
  | .request => 2

/-- Floor language modes, by their position in R57. -/
def LanguageMode.code : LanguageMode → Nat
  | .fixed => 0
  | .followSpeaker => 1

/-- Priority modes, by their position in R57. -/
def PriorityMode.code : PriorityMode → Nat
  | .mute => 0
  | .clear => 1

/-- Interlocks, by their position in R108. -/
def Interlock.code : Interlock → Nat
  | .lockout => 0
  | .takeover => 1

/-- Outputs (11.4). -/
def Output.code : Output → Nat
  | .a => 0
  | .b => 1

/-- Channel states, by their position in R109. -/
def ChannelState.code : ChannelState → Nat
  | .dark => 0
  | .floorFollow => 1
  | .served => 2
  | .idle => 3

/-- Channel ids of the listening unit (R195). -/
def ChanId.code : ChanId → Nat
  | .floor r => r.val
  | .channel l => 0x11 + l.val
  | .feed b => 0x21 + b.val

/-- A resolved channel (R195). -/
def resolvedByte (x : Option Resolved) : List Byte :=
  match x with
  | none => [0xFF]
  | some r => u8 (r.chan.code + if r.fallback then 0x80 else 0)

/-- A booth's input with its relay channel (R108, R195). -/
def BoothInput.bytes : BoothInput → List Byte
  | .nothing => [0, 0]
  | .floor => [1, 0]
  | .relay l => [2, 1] ++ number (some l)

/-! ## Sent frames -/

/-- A command's destination, kind and arguments (11.3, 11.4). -/
def Command.wire : Command → Nat × Nat × List Byte
  | .to a (.assign uid) => (a.val + 1, 0x01, uidBytes uid)
  | .to a (.talk k) => (a.val + 1, 0x02, index k)
  | .to a (.tune k d) => (a.val + 1, 0x03, index k ++ yesNo d)
  | .to a (.lamp l) => (a.val + 1, 0x04, u8 l.code)
  | .to a .poll => (a.val + 1, 0x05, [])
  | .resync => (0xFF, 0x06, [])

/-- The nine bytes of a command window (11.3). -/
def windowBytes (c : Option Command) : List Byte :=
  match c with
  | none => [0, Config.emptyWindowKind, BitVec.ofNat 8 Config.emptyWindowCount.val] ++ List.replicate 6 0
  | some c =>
    let (dest, kind, args) := c.wire
    u8 dest ++ u8 kind ++ u8 args.length ++ args ++ List.replicate (6 - args.length) 0

/-- A downstream spur frame as it goes out (11.3). -/
def SpurOut.bytes (f : SpurOut) : List Byte :=
  frameBytes 0x5C3A (f.listen.data.flatMap sampleBytes ++ windowBytes f.window ++ u8 f.threshold)

/-- The valid bits of the lane positions from 0 on, with lane-ready in bit 7 (11.2). -/
def TrunkOut.status (f : TrunkOut) : Byte :=
  BitVec.ofBool f.ready ++ Config.trunkSpareBits ++ BitVec.ofNat 4 (2 ^ f.bytes.length - 1)

/-- An upstream trunk frame as it goes out (11.2). -/
def TrunkOut.wire (f : TrunkOut) : List Byte :=
  frameBytes 0x47B9
    (f.floors.data.flatMap sampleBytes ++ f.channels.data.flatMap sampleBytes ++
      (f.bytes ++ List.replicate (4 - f.bytes.length) 0) ++ [f.status])

/-! ## Report bodies (R195) -/

/-- A code in one byte. -/
def reasonByte (r : Reason) : List Byte := u8 r.code

/-- STATION bodies. R21 has JOIN_REFUSED carry uid and spur with SPUR_FULL only, so they follow a presence byte (R195). -/
def StationReport.body : StationReport → List Byte
  | .joined a u k p s => [0x01] ++ addrByte (some a) ++ uidBytes u ++ u8 k.code ++ index (some p) ++ index s
  | .joinRefused c j =>
    [0x02] ++ reasonByte c ++ present (fun (x : Uid × SpurIx) => uidBytes x.1 ++ index (some x.2)) j
  | .bindingConflict u p a => [0x03] ++ uidBytes u ++ index (some p) ++ addrByte (some a)
  | .joinFailed u p => [0x04] ++ uidBytes u ++ index (some p)
  | .lost a u p c => [0x05] ++ addrByte (some a) ++ uidBytes u ++ index (some p) ++ reasonByte c
  | .expired a u c => [0x06] ++ addrByte (some a) ++ uidBytes u ++ reasonByte c
  | .stray p a u => [0x07] ++ index (some p) ++ addrByte (some a) ++ uidBytes u
  | .spurDown p => [0x08] ++ index (some p)
  | .spurUp p => [0x09] ++ index (some p)
  | .listenShortage p cs => [0x0A] ++ index (some p) ++ listOf (fun c => u8 c.code) cs

/-- FLOOR event codes (11.6). -/
def FloorKind.code : FloorKind → Nat
  | .granted => 0x01
  | .queued => 0x02
  | .closed => 0x03
  | .removed => 0x04
  | .requestRefused => 0x05
  | .nextRefused => 0x06
  | .held => 0x07
  | .heldCleared => 0x08
  | .priorityOn => 0x09
  | .priorityOff => 0x0A
  | .chairChanged => 0x0B

/-- FLOOR bodies (R82): the floor language and the two chairs are given only under a condition, so each is preceded by
a presence byte (R195). -/
def FloorReport.body (f : FloorReport) : List Byte :=
  u8 f.kind.code ++ addrByte f.addr ++ index f.room ++ reasonByte f.reason ++
    present (fun (c : Lang) => u8 c.val) f.language ++
    present (fun (c : Option Addr × Option Addr) => addrByte c.1 ++ addrByte c.2) f.chairs

/-- WALL bodies (R53): LINE with the line number, or DIRECTIVE. DEDUCED (log 59): the source takes the code that LINE or
DIRECTIVE has in the table of reasons and causes (11.6). -/
def WallReport.body (w : WallReport) : List Byte :=
  [0x01] ++ index (some w.wall) ++ wallState w.isOpen ++
    reasonByte (if w.source.isSome then .line else .directive) ++ present (fun l => index (some l)) w.source ++
    yesNo w.inUse ++ u8 w.permission.code ++ yesNo w.effOpen

/-- MAP origins (11.6), COPIED with the source id. -/
def Origin.bytes : Origin → List Byte
  | .claimed => [0x00, 0]
  | .copied r => [0x01, 1] ++ index (some r)
  | .defaults => [0x02, 0]

/-- MAP bodies (R73). -/
def MapReport.body : MapReport → List Byte
  | .pending k rooms =>
    [0x01] ++ u16 k ++ listOf (fun (x : RoomIx × SecSet) => index (some x.1) ++ u16 x.2.toNat) rooms
  | .cancelled => [0x02]
  | .fadeOut ids => [0x03] ++ listOf (fun r => index (some r)) ids
  | .room r secs o p c d direct =>
    [0x04] ++ index (some r) ++ u16 secs.toNat ++ o.bytes ++ index p ++ addrByte c ++ yesNo d ++ yesNo direct
  | .closed r direct => [0x05] ++ index (some r) ++ yesNo direct
  | .complete => [0x06]

/-- BOOTH bodies (R115). -/
def BoothReport.body : BoothReport → List Byte
  | .consoleOn b c a o p k cause =>
    [0x01] ++ number (some b) ++ number (some c) ++ addrByte (some a) ++ u8 o.code ++ index (some p) ++ index k ++
      reasonByte cause
  | .consoleOff b c a o r =>
    [0x02] ++ number (some b) ++ number (some c) ++ addrByte (some a) ++ u8 o.code ++ reasonByte r
  | .consoleRefused seat a o r => [0x03] ++ seatBytes seat ++ addrByte (some a) ++ u8 o.code ++ reasonByte r
  | .channel l c b r st p cause =>
    [0x04] ++ number (some l) ++ u8 c.val ++ number b ++ index r ++ u8 st.code ++ yesNo p ++ reasonByte cause
  | .input b r d i n cause =>
    [0x05] ++ number (some b) ++ index r ++ yesNo d ++ i.bytes ++ yesNo n ++ reasonByte cause

/-- OVERRIDE bodies (R168, R172). -/
def OverrideReport.body : OverrideReport → List Byte
  | .sources k c l src ls code =>
    u8 (match k with
      | .start => 0x01
      | .stop => 0x02
      | .changed => 0x03) ++ reasonByte c ++ present (fun l => index (some l)) l ++ yesNo src ++
      listOf (fun l => index (some l)) ls ++ [code]
  | .mute on s r l c ls =>
    u8 (if on then 0x04 else 0x05) ++ index (some s) ++ index r ++ index (some l) ++ reasonByte c ++
      listOf (fun l => index (some l)) ls

/-- LANE bodies (R4, R188). -/
def LaneReport.body : LaneReport → List Byte
  | .trunkLost => [0x01]
  | .trunkRestored n => [0x02] ++ u16 n
  | .frameError c => [0x03] ++ reasonByte c
  | .frameTimeout n t => [0x04] ++ u16 n ++ present (fun b => [b]) t
  | .directiveOverrun n f l => [0x05] ++ u16 n ++ [f, l]

/-! ## Data of a RESULT (R184) -/

/-- The capacities of R189, in its order. -/
def capacities : List Nat := [192, 192, 4, 48, 16, 16, 32, 16, 24, 24, 32, 16, 64, 8, 12, 8, 64]

/-- A link state, by its position in R4: UP is 0. -/
def linkState (up : Bool) : List Byte := u8 (if up then 0 else 1)

/-- PART_QUERY's data (R189). DEDUCED (log 50): a capacity is two bytes, as the counts of R195 are. -/
def PartData.bytes (d : PartData) : List Byte :=
  u16 Config.identity ++ [Config.designStep] ++ capacities.flatMap u16 ++ linkState d.trunkUp ++
    u8 (match d.clock with
      | .recovered => 0
      | .localOsc => 1) ++ u16 d.failRun ++ u16 d.goodRun ++ u8 d.phase.code ++ yesNo d.flag ++
    yesNo d.overrideActive ++ yesNo d.source ++ [d.code] ++ listOf (fun l => index (some l)) d.lines ++
    u16 d.reportFill ++ u16 d.directiveFill ++ yesNo d.overrunEmpty ++ u16 d.stray

/-- The fields of R17 and R18 of a record that holds a station (R38). -/
def Station.bytes (r : Station) : List Byte :=
  uidBytes r.uid ++ u8 r.kind.code ++ yesNo r.key ++ index (some r.spur) ++ index r.sec ++
    u8 ((r.declared.map Fin.val).getD 0) ++ seatBytes r.booth ++ [r.trim] ++ u8 r.listen.val ++ u8 r.lamp.code ++
    u16 r.missed ++ u16 ((r.holdLeft + 47999) / 48000) ++ u8 r.mic.code ++ index r.talk ++
    present (fun x => u32 x.toNat) r.stamp ++ yesNo r.held ++ u16 r.seconds ++ u24 r.silence ++
    resolvedByte r.resolved ++ index r.listenSlot ++ yesNo r.degraded ++ u24 r.envelope

/-- A wall as WALL_SET and WALL_QUERY give it (R52, R54). -/
def Wall.bytes (w : Wall) (effOpen : Bool) : List Byte :=
  yesNo w.inUse ++ index w.secA ++ index w.secB ++ index w.contact ++ u8 w.permission.code ++ wallState w.isOpen ++
    yesNo w.changed ++ yesNo effOpen

/-- A line as LINE_SET gives it (R45). -/
def Line.bytes (l : Line) : List Byte :=
  u8 l.fn.code ++ orFF l.fn.target ++ u8 l.polarity.code ++ [l.debounce] ++ yesNo l.lastRaw ++ u16 l.count ++
    yesNo l.debounced ++ yesNo l.reread

/-- A room record, in the order of R57. -/
def Room.bytes (r : Room) : List Byte :=
  u8 r.mode.code ++ u8 r.maxOpen ++ yesNo r.autoAdvance ++ u16 r.speakLimit ++ u16 r.silenceTimeout ++
    u8 r.silenceThreshold ++ [r.master] ++ index r.inject ++ [r.injectCode] ++ u8 r.language.val ++
    u8 r.languageMode.code ++ addrByte r.chair ++ u8 r.priorityMode.code

/-- A profile entry as stored (R60): each field present or absent. -/
def Profile.bytes (p : Profile) : List Byte :=
  let f := p.fields
  u16 p.secs.toNat ++ present (fun m => u8 m.code) f.mode ++ present u8 f.maxOpen ++ present yesNo f.autoAdvance ++
    present u16 f.speakLimit ++ present u16 f.silenceTimeout ++ present u8 f.silenceThreshold ++
    present (fun b => [b]) f.master ++ present index f.inject ++ present (fun b => [b]) f.injectCode ++
    present (fun c => u8 c.val) f.language ++ present (fun m => u8 m.code) f.languageMode ++
    present addrByte f.chair ++ present (fun m => u8 m.code) f.priorityMode

/-- ROOM_QUERY's data (R64). -/
def RoomData.bytes (d : RoomData) : List Byte :=
  u8 (if d.active then 0 else 1) ++ u16 d.secs.toNat ++ yesNo d.affected ++ d.record.bytes ++ u16 d.delegates ++
    yesNo d.chairOnAir ++ u16 d.queued ++ yesNo d.priority ++ u8 d.target ++ u8 d.applied ++ u16 d.clip

/-- MAP_QUERY's data (R74): the sections as a list preceded by its count (R195); the shadow's id follows each section
while a shadow exists. -/
def MapData.bytes (d : MapData) : List Byte :=
  u8 d.phase.code ++ yesNo d.flag ++ u16 d.settle ++ present u16 d.settleCount ++
    listOf (fun (x : (Bool × Option RoomIx) × Nat) =>
      yesNo x.1.1 ++ index x.1.2 ++ present (fun (m : List (Option RoomIx)) => index ((m.drop x.2).headD none))
        d.shadow) d.secs.zipIdx ++
    present (listOf fun r => index (some r)) d.affected

/-- QUEUE_QUERY's data (R97). -/
def QueueData.bytes (d : QueueData) : List Byte :=
  yesNo d.active ++ yesNo d.underChangeover ++
    listOf (fun (x : SpeakerData) =>
      addrByte (some x.addr) ++ index (some x.spur) ++ index x.slot ++ yesNo x.chair ++ yesNo x.muted ++
        u16 x.seconds ++ yesNo x.warning) d.speakers ++
    listOf (fun (x : Addr × SpurIx × Bool) => addrByte (some x.1) ++ index (some x.2.1) ++ yesNo x.2.2) d.queue ++
    listOf (fun a => addrByte (some a)) d.held ++ u16 d.delegates ++ yesNo d.priority ++ u16 d.poolFill

/-- A booth's stored fields (R108). -/
def Booth.storedBytes (b : Booth) : List Byte :=
  index b.anchor ++ listOf (fun c => u8 c.val) b.comprehension ++ number b.outA ++ number b.outB ++
    u8 b.interlock.code

/-- A booth's derived fields (R108). -/
def Booth.derivedBytes (b : Booth) : List Byte := index b.room ++ yesNo b.direct ++ b.input.bytes ++ yesNo b.noRelay

/-- One output of a BOOTH_QUERY (R129). -/
def OutputData.bytes (o : OutputData) : List Byte :=
  number (some o.chan) ++ u8 o.code.val ++ u8 o.state.code ++ yesNo o.parked ++
    present (fun (x : Addr × Option ConsoleIx) => addrByte (some x.1) ++ number x.2) o.console

/-- SPUR_QUERY's data (R15). -/
def SpurData.bytes (d : SpurData) : List Byte :=
  linkState d.up ++ u8 d.threshold ++ u16 d.failRun ++ u16 d.goodRun ++ u16 d.bad ++ u16 d.waiting ++
    yesNo d.holdTaken ++ u16 d.stations

/-- The data bytes of a RESULT (R184, R195). DEDUCED: the number of directives a warm restart removes is the count of its
list of tags (log 51), whether a binding names an address is the presence byte of its uid (log 52), each output of a
booth stands behind a presence byte of its own (log 56), and a station's state is given once (log 57). -/
def ResultData.bytes : ResultData → List Byte
  | .nothing => []
  | .part d => d.bytes
  | .restart tags n o =>
    listOf (fun t => [t]) tags ++ u16 n ++ present (fun (x : Overrun) => u16 x.count ++ [x.first, x.latest]) o
  | .timing p h => present u16 p ++ present u16 h
  | .station r b =>
    u8 r.state.code ++ present Station.bytes (if r.state = .empty then none else some r) ++ present uidBytes b
  | .walls ws => listOf (fun (x : Wall × Bool) => x.1.bytes x.2) ws
  | .wall w e => w.bytes e
  | .line l => l.bytes
  | .profile p => p.bytes
  | .room r => r.bytes
  | .roomState d => d.bytes
  | .map d => d.bytes
  | .floor as => listOf (fun a => addrByte (some a)) as
  | .queue d => d.bytes
  | .booth b => b.storedBytes ++ addrByte b.onA ++ addrByte b.onB ++ b.derivedBytes
  | .boothState b x y bs =>
    b.storedBytes ++ b.derivedBytes ++ present OutputData.bytes x ++ present OutputData.bytes y ++
      listOf (fun b => number (some b)) bs
  | .channel c b r st p => u8 c.val ++ number b ++ index r ++ u8 st.code ++ yesNo p
  | .announce src code active ls => yesNo src ++ [code] ++ yesNo active ++ listOf (fun l => index (some l)) ls
  | .spur d => d.bytes

/-! ## Report frames (R195) -/

/-- The report kind's code (11.6). -/
def Report.code : Report → Nat
  | .result .. => 0x01
  | .station _ => 0x02
  | .floor _ => 0x03
  | .wall _ => 0x04
  | .map _ => 0x05
  | .booth _ => 0x06
  | .override _ => 0x07
  | .lane _ => 0x08

/-- A report's body (R195). -/
def Report.body : Report → List Byte
  | .result k t c d => [k, t] ++ u8 c.code ++ d.bytes
  | .station r => r.body
  | .floor r => r.body
  | .wall r => r.body
  | .map r => r.body
  | .booth r => r.body
  | .override r => r.body
  | .lane r => r.body

/-- The byte that makes a sum of bytes 0 modulo 256 (11.5, 11.6). -/
def checkOf (bs : List Byte) : Byte := -(bs.foldl (· + ·) 0)

/-- A queued report as the report frame that goes out (R195). -/
def QueuedReport.bytes (q : QueuedReport) : List Byte :=
  let body := q.report.body
  let counted := u8 q.report.code ++ yesNo q.lost ++ u16 body.length ++ body
  0x5A :: counted ++ [checkOf counted]

end Sys2Proof.Machine
end

