-- ==== Sys2Proof/Machine/Operands.lean ====
section
/-! DEFINITION. The operand forms of the directives (11.5, R194): how a payload is split by its form, how each field is
read, what a directive says once read (`Order`), and the payload that says it (`Order.payload`). -/

namespace Sys2Proof.Machine

/-! ## Splitting a payload -/

/-- The width of one part of a payload (11.1): so many bytes, or a count byte and so many bytes for each item. -/
inductive Width where
  | bytes (n : Nat)
  | counted (per : Nat)
  deriving DecidableEq, Repr

/-- A payload's form (11.5): its fixed part, the size of its presence mask, and its optional fields, bit 0 first. -/
structure Form where
  fixed : List Width
  mask : Nat
  opts : List Width
  deriving DecidableEq, Repr

/-- A payload as its form splits it: the raw bytes of each part, and the bits of its mask. -/
structure Parts where
  fixed : List (List Byte)
  mask : Nat
  opts : List (Option (List Byte))
  deriving DecidableEq, Repr

/-- A number of bytes from the front, with what is left. -/
def takeBytes (n : Nat) (bs : List Byte) : Option (List Byte × List Byte) :=
  if n ≤ bs.length then some (bs.take n, bs.drop n) else none

/-- One part from the front of a payload. -/
def takePart (w : Width) (bs : List Byte) : Option (List Byte × List Byte) :=
  match w with
  | .bytes n => takeBytes n bs
  | .counted per =>
    match bs with
    | [] => none
    | b :: _ => takeBytes (1 + b.toNat * per) bs

/-- Parts one after another. -/
def takeParts : List Width → List Byte → Option (List (List Byte) × List Byte)
  | [], bs => some ([], bs)
  | w :: ws, bs =>
    match takePart w bs with
    | none => none
    | some (x, rest) => (takeParts ws rest).map fun r => (x :: r.1, r.2)

/-- The optional fields from a bit on: those whose mask bit is set, in ascending bit order. -/
def takeOpts (mask : Nat) : Nat → List Width → List Byte → Option (List (Option (List Byte)) × List Byte)
  | _, [], bs => some ([], bs)
  | i, w :: ws, bs =>
    if mask.testBit i then
      match takePart w bs with
      | none => none
      | some (x, rest) => (takeOpts mask (i + 1) ws rest).map fun r => (some x :: r.1, r.2)
    else (takeOpts mask (i + 1) ws bs).map fun r => (none :: r.1, r.2)

/-- A payload split by its form; none when its length is not what the form requires (R194, Length). -/
def Form.split (f : Form) (bs : List Byte) : Option Parts :=
  match takeParts f.fixed bs with
  | none => none
  | some (fixed, rest) =>
    match takeBytes f.mask rest with
    | none => none
    | some (m, rest) =>
      match takeOpts (bigEndian m) 0 f.opts rest with
      | some (opts, []) => some ⟨fixed, bigEndian m, opts⟩
      | _ => none

/-! ## Reading one field (11.1) -/

/-- An index counted from 0. -/
def readIndex (n : Nat) (bs : List Byte) : Option (Fin n) := toFin? n (bigEndian bs)

/-- A number counted from 1. -/
def readNumber (n : Nat) (bs : List Byte) : Option (Fin n) :=
  if bigEndian bs = 0 then none else toFin? n (bigEndian bs - 1)

/-- A field that may be none, whose none is a given number. -/
def readOr {α : Type} (none? : Nat) (f : List Byte → Option α) (bs : List Byte) : Option (Option α) :=
  if bigEndian bs = none? then some none else (f bs).map some

/-- A field of the yes/no kind (R194, Field values). -/
def readFlag (bs : List Byte) : Option Bool :=
  match bigEndian bs with
  | 0 => some false
  | 1 => some true
  | _ => none

/-- A byte taken as it stands. -/
def readByte (bs : List Byte) : Option Byte := some (BitVec.ofNat 8 (bigEndian bs))

/-- A number taken as it stands. -/
def readNat (bs : List Byte) : Option Nat := some (bigEndian bs)

/-- A declared language, 0x00 for none. -/
def readDeclared (bs : List Byte) : Option (Option Lang) := readOr 0 (readIndex 64) bs

/-- A booth with console (11.1, R194): 0xFF 0xFF is none, and either alone is refused. -/
def readSeat (bs : List Byte) : Option (Option (BoothIx × ConsoleIx)) :=
  if bigEndian bs = 0xFFFF then some none
  else match readNumber 8 (bs.take 1), readNumber 3 (bs.drop 1) with
    | some b, some c => some (some (b, c))
    | _, _ => none

/-- A floor mode. -/
def readMode (bs : List Byte) : Option FloorMode :=
  match bigEndian bs with
  | 0 => some .openFloor
  | 1 => some .replace
  | 2 => some .request
  | _ => none

/-- A floor language mode. -/
def readLanguageMode (bs : List Byte) : Option LanguageMode :=
  match bigEndian bs with
  | 0 => some .fixed
  | 1 => some .followSpeaker
  | _ => none

/-- A priority mode. -/
def readPriorityMode (bs : List Byte) : Option PriorityMode :=
  match bigEndian bs with
  | 0 => some .mute
  | 1 => some .clear
  | _ => none

/-- A permission. -/
def readPermission (bs : List Byte) : Option Permission :=
  match bigEndian bs with
  | 0 => some .auto
  | 1 => some .forceClosed
  | 2 => some .forceOpen
  | _ => none

/-- A wall state: OPEN is 0x00. -/
def readWallState (bs : List Byte) : Option Bool :=
  match bigEndian bs with
  | 0 => some true
  | 1 => some false
  | _ => none

/-- A polarity. -/
def readPolarity (bs : List Byte) : Option Polarity :=
  match bigEndian bs with
  | 0 => some .activeLow
  | 1 => some .activeHigh
  | _ => none

/-- An interlock. -/
def readInterlock (bs : List Byte) : Option Interlock :=
  match bigEndian bs with
  | 0 => some .lockout
  | 1 => some .takeover
  | _ => none

/-- A function with its target, in a combination R45 allows. -/
def readFunction (bs : List Byte) : Option LineFunction :=
  match bigEndian (bs.take 1), bigEndian (bs.drop 1) with
  | 0, 0xFF => some .unused
  | 1, t => (toFin? 24 t).map .wall
  | 2, 0xFF => some .override
  | 3, t => (toFin? 16 t).map .roomMute
  | _, _ => none

/-- A section set that is not empty (R60). -/
def readSections (bs : List Byte) : Option SecSet :=
  if bigEndian bs = 0 then none else some (BitVec.ofNat 16 (bigEndian bs))

/-- One pair of a SECTION_SET. -/
def readPair (bs : List Byte) : Option (SecIx × Bool) :=
  match readIndex 16 (bs.take 1), readFlag (bs.drop 1) with
  | some s, some e => some (s, e)
  | _, _ => none

/-- The pairs of a SECTION_SET, from their bytes, at most n. -/
def readPairs : Nat → List Byte → Option (List (SecIx × Bool))
  | _, [] => some []
  | 0, _ => none
  | n + 1, bs =>
    match readPair (bs.take 2), readPairs n (bs.drop 2) with
    | some p, some ps => some (p :: ps)
    | _, _ => none

/-- A list of pairs that R48 accepts: 1 to 16 of them, no section twice. -/
def pairsOk (ps : List (SecIx × Bool)) : Bool := !ps.isEmpty && ps.length ≤ 16 && (ps.map Prod.fst).Nodup

/-- The counted list of a SECTION_SET (R48). -/
def readSectionPairs (bs : List Byte) : Option (List (SecIx × Bool)) :=
  (readPairs bs.length (bs.drop 1)).filter pairsOk

/-- Language codes from 1 to 63, one byte each. -/
def readCodes : List Byte → Option (List Lang)
  | [] => some []
  | b :: bs =>
    match toFin? 64 b.toNat, readCodes bs with
    | some c, some cs => some (c :: cs)
    | _, _ => none

/-- A comprehension set that R124 accepts: 1 to 4 distinct codes from 1 to 63. -/
def comprehensionOk (cs : List Lang) : Bool := !cs.isEmpty && cs.length ≤ 4 && cs.Nodup && cs.all fun c => c != 0

/-- The counted comprehension set of a BOOTH_SET (R124). -/
def readComprehension (bs : List Byte) : Option (List Lang) := (readCodes (bs.drop 1)).filter comprehensionOk

/-- A field that may be absent: absent when it is not carried, refused when its value is. -/
def readOpt {α : Type} (f : List Byte → Option α) (x : Option (List Byte)) : Option (Option α) :=
  match x with
  | none => some none
  | some bs => (f bs).map some

/-! ## Orders -/

/-- What a directive says, its fields read. A field marked optional is absent or present; a present field that may
carry none is an option within. -/
inductive Order where
  | partQuery
  | warmRestart
  | setTiming (poll hold settle : Option Nat)
  | bindSeat (uid : Uid) (addr : Addr) (sec : Option SecIx) (declared : Option (Option Lang))
      (booth : Option (Option (BoothIx × ConsoleIx)))
  | unbindSeat (uid : Uid)
  | stationSet (addr : Addr) (sec : Option (Option SecIx)) (declared : Option (Option Lang))
      (booth : Option (Option (BoothIx × ConsoleIx))) (trim : Option Byte) (listen : Option Lang)
  | stationQuery (addr : Addr)
  | sectionSet (pairs : List (SecIx × Bool))
  | wallSet (wall : WallIx) (inUse : Option Bool) (secA secB : Option (Option SecIx)) (perm : Option Permission)
      (isOpen : Option Bool)
  | wallQuery (first : WallIx) (count : Nat)
  | lineSet (line : LineIx) (fn : Option LineFunction) (pol : Option Polarity) (deb : Option Byte)
  | profileSet (entry : EntryIx) (secs : SecSet) (fields : RoomFields)
  | profileClear (entry : EntryIx)
  | roomSet (room : RoomIx) (fields : RoomFields)
  | roomQuery (room : RoomIx)
  | mapQuery
  | floorGrantHead (room : RoomIx)
  | floorGrant (addr : Addr)
  | floorClose (addr : Addr)
  | floorCancel (addr : Addr)
  | floorClearQueue (room : RoomIx)
  | floorCloseAll (room : RoomIx)
  | queueQuery (room : RoomIx)
  | boothSet (booth : BoothIx) (anchor : Option (Option SecIx)) (comp : Option (List Lang))
      (outA outB : Option (Option ChanIx)) (interlock : Option Interlock)
  | boothQuery (booth : BoothIx)
  | channelSet (chan : ChanIx) (code : Option Lang)
  | announce (on : Bool) (code : Option Byte)
  | spurQuery (spur : SpurIx)
  deriving DecidableEq, Repr

/-- The room record fields in the order of their mask bits (11.5). -/
def roomWidths : List Width :=
  [.bytes 1, .bytes 1, .bytes 1, .bytes 2, .bytes 2, .bytes 1, .bytes 1, .bytes 1, .bytes 1, .bytes 1, .bytes 1,
   .bytes 1, .bytes 1]

/-- The payload form of a directive kind (11.5); none for a kind outside the table. -/
def formOf (kind : Byte) : Option Form :=
  match kind.toNat with
  | 0x01 => some ⟨[], 0, []⟩
  | 0x02 => some ⟨[], 0, []⟩
  | 0x03 => some ⟨[], 1, [.bytes 2, .bytes 2, .bytes 2]⟩
  | 0x04 => some ⟨[.bytes 6, .bytes 1], 1, [.bytes 1, .bytes 1, .bytes 2]⟩
  | 0x05 => some ⟨[.bytes 6], 0, []⟩
  | 0x06 => some ⟨[.bytes 1], 1, [.bytes 1, .bytes 1, .bytes 2, .bytes 1, .bytes 1]⟩
  | 0x07 => some ⟨[.bytes 1], 0, []⟩
  | 0x08 => some ⟨[.counted 2], 0, []⟩
  | 0x09 => some ⟨[.bytes 1], 1, [.bytes 1, .bytes 1, .bytes 1, .bytes 1, .bytes 1]⟩
  | 0x0A => some ⟨[.bytes 1, .bytes 1], 0, []⟩
  | 0x0B => some ⟨[.bytes 1], 1, [.bytes 2, .bytes 1, .bytes 1]⟩
  | 0x0C => some ⟨[.bytes 1, .bytes 2], 2, roomWidths⟩
  | 0x0D => some ⟨[.bytes 1], 0, []⟩
  | 0x0E => some ⟨[.bytes 1], 2, roomWidths⟩
  | 0x0F => some ⟨[.bytes 1], 0, []⟩
  | 0x10 => some ⟨[.bytes 1, .bytes 1], 0, []⟩
  | 0x11 => some ⟨[.bytes 1], 0, []⟩
  | 0x12 => some ⟨[.bytes 1], 1, [.bytes 1, .counted 1, .bytes 1, .bytes 1, .bytes 1]⟩
  | 0x13 => some ⟨[.bytes 1], 0, []⟩
  | 0x14 => some ⟨[.bytes 1], 1, [.bytes 1]⟩
  | 0x15 => some ⟨[.bytes 1], 1, [.bytes 1]⟩
  | 0x16 => some ⟨[], 0, []⟩
  | 0x17 => some ⟨[.bytes 1], 0, []⟩
  | _ => none

/-- The silence timeout, refused above 255 (R60). -/
def readTimeout (bs : List Byte) : Option Nat := (readNat bs).filter fun n => n ≤ 255

/-- The settle setting, refused above 255 (R67). -/
def readSettle (bs : List Byte) : Option Nat := (readNat bs).filter fun n => n ≤ 255

/-- The room record fields that a directive carries, with the BAD_FIELD tests of R60. -/
def readRoomFields (xs : List (Option (List Byte))) : Option RoomFields :=
  match xs with
  | [a, b, c, d, e, f, g, h, i, j, k, l, m] => do
    let mode ← readOpt readMode a
    let maxOpen ← readOpt readNat b
    let autoAdvance ← readOpt readFlag c
    let speakLimit ← readOpt readNat d
    let silenceTimeout ← readOpt readTimeout e
    let silenceThreshold ← readOpt readNat f
    let master ← readOpt readByte g
    let inject ← readOpt (readOr 0xFF (readIndex 4)) h
    let injectCode ← readOpt readByte i
    let language ← readOpt (readIndex 64) j
    let languageMode ← readOpt readLanguageMode k
    let chair ← readOpt (readOr 0 (readNumber 192)) l
    let priorityMode ← readOpt readPriorityMode m
    some ⟨mode, maxOpen, autoAdvance, speakLimit, silenceTimeout, silenceThreshold, master, inject, injectCode,
      language, languageMode, chair, priorityMode⟩
  | _ => none

/-- The action of a FLOOR directive with the room or station it names (R96). -/
def readFloor (action target : List Byte) : Option Order :=
  match bigEndian action with
  | 0 => (readIndex 16 target).map .floorGrantHead
  | 1 => (readNumber 192 target).map .floorGrant
  | 2 => (readNumber 192 target).map .floorClose
  | 3 => (readNumber 192 target).map .floorCancel
  | 4 => (readIndex 16 target).map .floorClearQueue
  | 5 => (readIndex 16 target).map .floorCloseAll
  | _ => none

/-- The fields of a split payload read (R194, Field values), with the BAD_FIELD tests that need no state. -/
def readOrder (kind : Byte) (p : Parts) : Option Order :=
  match kind.toNat, p.fixed, p.opts with
  | 0x01, [], [] => some .partQuery
  | 0x02, [], [] => some .warmRestart
  | 0x03, [], [a, b, c] => do
    some (.setTiming (← readOpt readNat a) (← readOpt readNat b) (← readOpt readSettle c))
  | 0x04, [u, a], [x, y, z] => do
    some (.bindSeat (BitVec.ofNat 48 (bigEndian u)) (← readNumber 192 a) (← readOpt (readIndex 16) x)
      (← readOpt readDeclared y) (← readOpt readSeat z))
  | 0x05, [u], [] => some (.unbindSeat (BitVec.ofNat 48 (bigEndian u)))
  | 0x06, [a], [v, w, x, y, z] => do
    some (.stationSet (← readNumber 192 a) (← readOpt (readOr 0xFF (readIndex 16)) v) (← readOpt readDeclared w)
      (← readOpt readSeat x) (← readOpt readByte y) (← readOpt (readIndex 64) z))
  | 0x07, [a], [] => (readNumber 192 a).map .stationQuery
  | 0x08, [a], [] => (readSectionPairs a).map .sectionSet
  | 0x09, [a], [v, w, x, y, z] => do
    some (.wallSet (← readIndex 24 a) (← readOpt readFlag v) (← readOpt (readOr 0xFF (readIndex 16)) w)
      (← readOpt (readOr 0xFF (readIndex 16)) x) (← readOpt readPermission y) (← readOpt readWallState z))
  | 0x0A, [a, n], [] => do
    let first ← readIndex 24 a
    let count ← (readNat n).filter fun n => 1 ≤ n && first.val + n ≤ 24
    some (.wallQuery first count)
  | 0x0B, [a], [x, y, z] => do
    some (.lineSet (← readIndex 24 a) (← readOpt readFunction x) (← readOpt readPolarity y) (← readOpt readByte z))
  | 0x0C, [a, b], xs => do
    some (.profileSet (← readIndex 32 a) (← readSections b) (← readRoomFields xs))
  | 0x0D, [a], [] => (readIndex 32 a).map .profileClear
  | 0x0E, [a], xs => do
    some (.roomSet (← readIndex 16 a) (← readRoomFields xs))
  | 0x0F, [a], [] => (readIndex 16 a).map .roomQuery
  | 0x10, [a, b], [] => readFloor a b
  | 0x11, [a], [] => (readIndex 16 a).map .queueQuery
  | 0x12, [a], [v, w, x, y, z] => do
    some (.boothSet (← readNumber 8 a) (← readOpt (readOr 0xFF (readIndex 16)) v) (← readOpt readComprehension w)
      (← readOpt (readOr 0xFF (readNumber 12)) x) (← readOpt (readOr 0xFF (readNumber 12)) y)
      (← readOpt readInterlock z))
  | 0x13, [a], [] => (readNumber 8 a).map .boothQuery
  | 0x14, [a], [x] => do
    some (.channelSet (← readNumber 12 a) (← readOpt (readIndex 64) x))
  | 0x15, [a], [x] => do
    some (.announce (← readFlag a) (← readOpt readByte x))
  | 0x16, [], [] => some .mapQuery
  | 0x17, [a], [] => (readIndex 4 a).map .spurQuery
  | _, _, _ => none

/-- What the tests of R194 make of a directive: the code it is refused with, or its order. -/
inductive Examined where
  | refused (code : ResultCode)
  | order (o : Order)
  deriving DecidableEq, Repr

/-- A directive examined (R194): unknown kind, length, undefined mask bits, field values, in that order. -/
def examine (kind : Byte) (payload : List Byte) : Examined :=
  match formOf kind with
  | none => .refused .badField
  | some f =>
    match f.split payload with
    | none => .refused .badLength
    | some p =>
      if 2 ^ f.opts.length ≤ p.mask then .refused .badField
      else match readOrder kind p with
        | none => .refused .badField
        | some o => .order o

/-! ## Payloads -/

/-- The presence mask's number of a list of optional fields (11.5). -/
def maskOf : List (Option (List Byte)) → Nat
  | [] => 0
  | x :: xs => (if x.isSome then 1 else 0) + 2 * maskOf xs

/-- The bytes of the fields present. -/
def optBytes (xs : List (Option (List Byte))) : List Byte := xs.flatMap fun x => x.getD []

/-- A one-byte mask and its fields. -/
def masked (xs : List (Option (List Byte))) : List Byte := u8 (maskOf xs) ++ optBytes xs

/-- The room record fields as a payload carries them (11.5). -/
def RoomFields.parts (f : RoomFields) : List (Option (List Byte)) :=
  [f.mode.map fun m => u8 m.code, f.maxOpen.map u8, f.autoAdvance.map yesNo, f.speakLimit.map u16,
   f.silenceTimeout.map u16, f.silenceThreshold.map u8, f.master.map fun b => [b], f.inject.map index,
   f.injectCode.map fun b => [b], f.language.map fun c => u8 c.val, f.languageMode.map fun m => u8 m.code,
   f.chair.map addrByte, f.priorityMode.map fun m => u8 m.code]

/-- A two-byte mask and the room record fields. -/
def RoomFields.payload (f : RoomFields) : List Byte := u16 (maskOf f.parts) ++ optBytes f.parts

/-- A declared language, 0x00 for none. -/
def declaredByte (x : Option Lang) : List Byte := u8 ((x.map Fin.val).getD 0)

/-- A directive's kind (11.5). -/
def Order.kind : Order → Byte
  | .partQuery => 0x01
  | .warmRestart => 0x02
  | .setTiming .. => 0x03
  | .bindSeat .. => 0x04
  | .unbindSeat _ => 0x05
  | .stationSet .. => 0x06
  | .stationQuery _ => 0x07
  | .sectionSet _ => 0x08
  | .wallSet .. => 0x09
  | .wallQuery .. => 0x0A
  | .lineSet .. => 0x0B
  | .profileSet .. => 0x0C
  | .profileClear _ => 0x0D
  | .roomSet .. => 0x0E
  | .roomQuery _ => 0x0F
  | .mapQuery => 0x16
  | .floorGrantHead _ => 0x10
  | .floorGrant _ => 0x10
  | .floorClose _ => 0x10
  | .floorCancel _ => 0x10
  | .floorClearQueue _ => 0x10
  | .floorCloseAll _ => 0x10
  | .queueQuery _ => 0x11
  | .boothSet .. => 0x12
  | .boothQuery _ => 0x13
  | .channelSet .. => 0x14
  | .announce .. => 0x15
  | .spurQuery _ => 0x17

/-- The payload that says an order (11.5). -/
def Order.payload : Order → List Byte
  | .partQuery => []
  | .warmRestart => []
  | .setTiming p h k => masked [p.map u16, h.map u16, k.map u16]
  | .bindSeat u a s d b =>
    uidBytes u ++ addrByte (some a) ++
      masked [s.map fun x => index (some x), d.map declaredByte, b.map seatBytes]
  | .unbindSeat u => uidBytes u
  | .stationSet a s d b t l =>
    addrByte (some a) ++
      masked [s.map index, d.map declaredByte, b.map seatBytes, t.map fun x => [x], l.map fun c => u8 c.val]
  | .stationQuery a => addrByte (some a)
  | .sectionSet ps => listOf (fun (p : SecIx × Bool) => index (some p.1) ++ yesNo p.2) ps
  | .wallSet w u a b p o =>
    index (some w) ++
      masked [u.map yesNo, a.map index, b.map index, p.map fun x => u8 x.code, o.map wallState]
  | .wallQuery f n => index (some f) ++ u8 n
  | .lineSet l f p d =>
    index (some l) ++
      masked [f.map fun x => u8 x.code ++ orFF x.target, p.map fun x => u8 x.code, d.map fun x => [x]]
  | .profileSet e s f => index (some e) ++ u16 s.toNat ++ f.payload
  | .profileClear e => index (some e)
  | .roomSet r f => index (some r) ++ f.payload
  | .roomQuery r => index (some r)
  | .mapQuery => []
  | .floorGrantHead r => u8 0 ++ index (some r)
  | .floorGrant a => u8 1 ++ addrByte (some a)
  | .floorClose a => u8 2 ++ addrByte (some a)
  | .floorCancel a => u8 3 ++ addrByte (some a)
  | .floorClearQueue r => u8 4 ++ index (some r)
  | .floorCloseAll r => u8 5 ++ index (some r)
  | .queueQuery r => index (some r)
  | .boothSet b a c x y i =>
    number (some b) ++
      masked [a.map index, c.map fun x => listOf (fun (c : Lang) => u8 c.val) x, x.map number, y.map number,
        i.map fun x => u8 x.code]
  | .boothQuery b => number (some b)
  | .channelSet l c => number (some l) ++ masked [c.map fun x => u8 x.val]
  | .announce o c => yesNo o ++ masked [c.map fun x => [x]]
  | .spurQuery p => index (some p)

/-- The values R60 to R62 leave to the record, as far as a payload can carry them: one byte or two, and the silence
timeout at most 255. -/
def RoomFields.carried (f : RoomFields) : Bool :=
  f.maxOpen.all (· < 256) && f.speakLimit.all (· < 65536) && f.silenceTimeout.all (· ≤ 255) &&
    f.silenceThreshold.all (· < 256)

/-- An order that a payload can carry and that the tests without state accept. -/
def Order.carried : Order → Bool
  | .setTiming p h k => p.all (· < 65536) && h.all (· < 65536) && k.all (· ≤ 255)
  | .bindSeat _ _ _ d _ => d.all (· != some 0)
  | .stationSet _ _ d _ _ _ => d.all (· != some 0)
  | .sectionSet ps => pairsOk ps
  | .wallQuery f n => 1 ≤ n && f.val + n ≤ 24
  | .profileSet _ s f => s != 0 && f.carried
  | .roomSet _ f => f.carried
  | .boothSet _ _ c _ _ _ => c.all comprehensionOk
  | _ => true

end Sys2Proof.Machine
end

