-- ==== Sys2Proof/Machine/Directives.lean ====
section
/-! DEFINITION. What each directive does (10.4): one definition for each, with the tests of its owning rule in the order
of R183, and the RESULT data that rule gives (R184). -/

namespace Sys2Proof.Machine

/-- What carrying out or refusing a directive gives: the state, and the RESULT's code and data. -/
structure Reply where
  state : State
  code : ResultCode
  data : ResultData

/-- A refusal (R183): nothing is written, and no data is given. -/
def State.refuse (s : State) (c : ResultCode) : Reply := ⟨s, c, .nothing⟩

/-- A directive carried out (R184). -/
def State.accept (s : State) (d : ResultData) : Reply := ⟨s, .ok, d⟩

/-- The same, as OK_CLAMPED when a value was adjusted (R183). -/
def State.acceptClamped (s : State) (clamped : Bool) (d : ResultData) : Reply :=
  ⟨s, if clamped then .okClamped else .ok, d⟩

/-! ## The part -/

/-- What PART_QUERY reads (R189). DESIGN CHOICE (log 60): R189 gives the active override lines no order, and they are
listed ascending, as R167 and R168 have it elsewhere. -/
def State.partData (s : State) : PartData where
  trunkUp := s.trunk.link.up
  clock := s.trunk.clock
  failRun := s.trunk.link.failRun
  goodRun := s.trunk.link.goodRun
  phase := s.map.phase
  flag := s.map.flag
  overrideActive := s.overrideActive
  source := s.override.source
  code := s.override.code
  lines := s.overrideLines
  reportFill := s.lane.reports.length + if s.lane.reserved then 1 else 0
  directiveFill := s.lane.directives.length
  overrunEmpty := s.lane.overrun.isNone
  stray := s.lane.stray

/-- PART_QUERY (R189). -/
def runPartQuery (s : State) : Reply :=
  State.accept { s with lane := { s.lane with stray := 0 } } (.part s.partData)

/-- The floor controller's warm restart (R107), every station record being EMPTY. -/
def State.floorRestart (s : State) : State :=
  { s with
    spurs := s.spurs.map fun p => { p with talkSlots := .fill 16 none }
    floor := ⟨[], 0, 0, .fill 16 false, [], []⟩ }

/-- The listening unit's warm restart (R144). -/
def State.listenRestart (s : State) : State :=
  { s with spurs := s.spurs.map fun p => { p with listenSlots := .fill 16 none, unserved := [] } }

/-- The reports a warm restart keeps: the one in transmission (R190 step 9). -/
def LaneUnit.inTransmission (l : LaneUnit) : List QueuedReport := if l.sent = 0 then [] else l.reports.take 1

/-- The control lane unit's own restart (R190 step 9). -/
def LaneUnit.restart (l : LaneUnit) : LaneUnit :=
  { l with
    assembly := .initial, stray := 0, directives := l.directives.take 1, overrun := none,
    reports := l.inTransmission }

/-- Steps 1 to 9 of WARM_RESTART (R190). -/
def State.warmRestart (s : State) : State :=
  let t : State := s.registryRestart.mapRestart.floorRestart.boothRestart.listenRestart.mixRestart.overrideRestart
  { t with lane := t.lane.restart }

/-- WARM_RESTART (R190). -/
def runWarmRestart (s : State) : Reply :=
  s.warmRestart.accept
    (.restart (s.lane.directives.tail.map Directive.tag) (s.lane.reports.length - s.lane.inTransmission.length)
      s.lane.overrun)

/-! ## Registry -/

/-- A value adjusted to the nearest end of its range (R183). -/
def clampTo (lo hi n : Nat) : Nat := max lo (min hi n)

/-- Whether a value carried was adjusted. -/
def adjusted (lo hi : Nat) (x : Option Nat) : Bool := x.any fun n => clampTo lo hi n != n

/-- A poll spacing written (R33, R39): a change restarts every poll timer. -/
def State.setPoll (s : State) (n : Nat) : State :=
  if s.pollSpacing = n then s
  else { s with pollSpacing := n, spurs := s.spurs.map fun p => { p with pollTimer := 0 } }

/-- SET_TIMING (R39, R67). A settle setting above 255 has been refused by the reading of the field. The RESULT returns the
stored values of the two settings that the part adjusts (R183). DEDUCED (log 40): those of them that were carried. -/
def runSetTiming (poll hold settle : Option Nat) (s : State) : Reply :=
  let poll' := poll.map (clampTo 16 4096)
  let hold' := hold.map (clampTo 1 3600)
  let t : State := match poll' with
    | some n => s.setPoll n
    | none => s
  let t : State := { t with lostHold := hold'.getD t.lostHold, map := { t.map with settle := settle.getD t.map.settle } }
  t.acceptClamped (adjusted 16 4096 poll || adjusted 1 3600 hold) (.timing poll' hold')

/-- A new binding meets one of the conflicts of R19. -/
def State.bindConflict (s : State) (b : Binding) : Bool :=
  s.bindings.any (fun x => x.uid == b.uid || x.addr == b.addr || (b.booth.isSome && x.booth == b.booth)) ||
    ((s.station b.addr).active && (s.station b.addr).uid != b.uid)

/-- A LOST record of another uid at a newly bound address becomes EMPTY (R19). -/
def State.rebind (s : State) (b : Binding) : State :=
  let r := s.station b.addr
  if r.state = .lost ∧ r.uid ≠ b.uid then
    (s.updStation b.addr fun _ => .initial).place (.station (.expired b.addr r.uid .rebound))
  else s

/-- BIND_SEAT (R19). -/
def runBindSeat (b : Binding) (s : State) : Reply :=
  if s.bindConflict b then s.refuse .conflict
  else State.accept (State.rebind { s with bindings := s.bindings ++ [b] } b) .nothing

/-- UNBIND_SEAT (R20). -/
def runUnbindSeat (u : Uid) (s : State) : Reply :=
  if s.bindings.any fun b => b.uid == u then
    State.accept { s with bindings := s.bindings.filter fun b => b.uid != u } .nothing
  else s.refuse .notFound

/-- The record after a STATION_SET's writes (R37). -/
def Station.written (r : Station) (sec : Option (Option SecIx)) (declared : Option (Option Lang))
    (booth : Option (Option (BoothIx × ConsoleIx))) (trim : Option Byte) (listen : Option Lang) : Station :=
  { r with
    sec := sec.getD r.sec, declared := declared.getD r.declared, booth := booth.getD r.booth,
    trim := trim.getD r.trim, listen := listen.getD r.listen }

/-- The blocks that act on a STATION_SET (R37, R63, R103, R123, R134), in their order. DEDUCED (log 41): the seat check is
made for a LOST or JOINING record too. DESIGN CHOICE (log 42): a console leaves its output before the seat check. -/
def State.stationWrite (s : State) (a : Addr) (new : Station) : State :=
  let old := s.station a
  let here := old.state == .present
  let moved := old.sec != new.sec
  let seated := old.booth != new.booth && old.kind == .console
  let tuned := old.listen != new.listen && old.kind == .delegate
  let t : State := if here && moved then s.floorMove a else s
  let t : State := if here && seated then t.consoleMoves a else t
  let t : State := t.updStation a fun x =>
    { x with sec := new.sec, declared := new.declared, booth := new.booth, trim := new.trim, listen := new.listen }
  let t : State := if moved then t.seatCheck s a else t
  if here && (moved || seated || tuned) then t.listenTo a else t

/-- STATION_SET (R37). -/
def runStationSet (a : Addr) (sec : Option (Option SecIx)) (declared : Option (Option Lang))
    (booth : Option (Option (BoothIx × ConsoleIx))) (trim : Option Byte) (listen : Option Lang) (s : State) : Reply :=
  let r := s.station a
  let seat := booth.join
  if seat.isSome && r.holds && r.kind == .delegate then s.refuse .badField
  else if !r.holds then s.refuse .notFound
  else if seat.any (s.seatTaken a) then s.refuse .conflict
  else (s.stationWrite a (r.written sec declared booth trim listen)).accept .nothing

/-- STATION_QUERY (R38). -/
def runStationQuery (a : Addr) (s : State) : Reply :=
  s.accept (.station (s.station a) ((s.bindings.find? fun b => b.addr == a).map Binding.uid))

/-! ## Sections, walls and lines -/

/-- SECTION_SET (R48). -/
def runSectionSet (ps : List (SecIx × Bool)) (s : State) : Reply := (s.sectionWrite ps).accept .nothing

/-- WALL_SET (R52). -/
def runWallSet (w : WallIx) (inUse : Option Bool) (secA secB : Option (Option SecIx)) (perm : Option Permission)
    (isOpen : Option Bool) (s : State) : Reply :=
  let new := (s.wall w).written inUse secA secB perm
  if !new.sound then s.refuse .badField
  else if isOpen.isSome && new.contact.isSome then s.refuse .conflict
  else
    let t : State := s.wallWrite w new isOpen
    t.accept (.wall (t.wall w) (t.effOpen w))

/-- The walls of a WALL_QUERY, ascending. -/
def wallRange (first : WallIx) (count : Nat) : List WallIx :=
  finsWhere 24 fun w => first ≤ w && w.val < first.val + count

/-- WALL_QUERY (R54). -/
def runWallQuery (first : WallIx) (count : Nat) (s : State) : Reply :=
  let ws := wallRange first count
  (s.clearWallFlags ws).accept (.walls (ws.map fun w => (s.wall w, s.effOpen w)))

/-- LINE_SET (R45). -/
def runLineSet (l : LineIx) (fn : Option LineFunction) (pol : Option Polarity) (deb : Option Byte) (s : State) :
    Reply :=
  if fn.any (s.wallTaken l) then s.refuse .conflict
  else
    let t : State := s.lineSet l fn pol deb
    t.accept (.line (t.line l))

/-! ## Profiles and rooms -/

/-- The fields with the clamping of R60. -/
def RoomFields.clamped (f : RoomFields) : RoomFields :=
  { f with
    maxOpen := f.maxOpen.map (clampTo 1 8), speakLimit := f.speakLimit.map (clampTo 0 3600),
    silenceThreshold := f.silenceThreshold.map (clampTo 0 96) }

/-- Whether a field was adjusted (R60). -/
def RoomFields.adjusts (f : RoomFields) : Bool :=
  adjusted 1 8 f.maxOpen || adjusted 0 3600 f.speakLimit || adjusted 0 96 f.silenceThreshold

/-- A profile entry written. -/
def State.setProfile (s : State) (e : EntryIx) (p : Option Profile) : State :=
  { s with map := { s.map with profiles := s.map.profiles.set e p } }

/-- PROFILE_SET (R60). -/
def runProfileSet (e : EntryIx) (secs : SecSet) (f : RoomFields) (s : State) : Reply :=
  if (lowestFin 32 fun x => x != e && (s.map.profiles.get x).map Profile.secs == some secs).isSome then
    s.refuse .conflict
  else (s.setProfile e (some ⟨secs, f.clamped⟩)).acceptClamped f.adjusts (.profile ⟨secs, f.clamped⟩)

/-- PROFILE_CLEAR (R61). -/
def runProfileClear (e : EntryIx) (s : State) : Reply :=
  if (s.map.profiles.get e).isNone then s.refuse .notFound else (s.setProfile e none).accept .nothing

/-- The other records that name an address as chair lose it, each as a chair change of its room (R62, R95). DESIGN CHOICE
(log 46): in ascending id order. -/
def State.takeChair (s : State) (before : State) (r : RoomIx) (a : Addr) : State :=
  eachFin 16 (fun q t =>
    if q != r && (t.room q).chair == some a then
      (t.updRoom q fun x => { x with chair := none }).chairChange before q (some a) none .directive
    else t) s

/-- ROOM_SET carried out (R62, R100, R127). -/
def State.roomWrite (s : State) (r : RoomIx) (f : RoomFields) : State :=
  let t : State := s.updRoom r f.clamped.apply
  let t : State := match f.chair.join with
    | some a => t.takeChair s r a
    | none => t
  let t : State := (if t.active r then t.applySettings s r else t).endFloorEvent
  let language := (f.clamped.apply (s.room r)).language
  if t.active r && (s.room r).language != language then t.evaluate s .floorLanguage else t

/-- ROOM_SET (R62). The RESULT carries the record as written, whatever a grant of the event's advance pass then makes of
its floor language. -/
def runRoomSet (r : RoomIx) (f : RoomFields) (s : State) : Reply :=
  if f.chair.join.any fun a => !s.active r || !s.seatIn s.map.live r a then s.refuse .conflict
  else (s.roomWrite r f).acceptClamped f.adjusts (.room (f.clamped.apply (s.room r)))

/-- What ROOM_QUERY reads (R64). -/
def State.roomData (s : State) (r : RoomIx) : RoomData where
  active := s.active r
  secs := sectionSet s.map.live r
  affected := s.map.affected.get r && (s.map.phase == .fadeOut || s.map.phase == .fadeIn)
  record := s.room r
  delegates := s.delegateCount r
  chairOnAir := (s.speakers r).any fun a => s.isChair r a
  queued := (s.queue r).length
  priority := s.floor.priority.get r
  target := s.mix.target.get r
  applied := s.mix.applied.get r
  clip := s.mix.clip.get r

/-- ROOM_QUERY (R64). -/
def runRoomQuery (r : RoomIx) (s : State) : Reply :=
  State.accept { s with mix := { s.mix with clip := s.mix.clip.set r 0 } } (.roomState (s.roomData r))

/-- What MAP_QUERY reads (R74). -/
def State.mapData (s : State) : MapData where
  phase := s.map.phase
  flag := s.map.flag
  settle := s.map.settle
  settleCount := if s.map.phase = .pending then some s.map.settleCount else none
  secs := (List.finRange 16).map fun i => (s.sections.get i, s.map.live.get i)
  shadow := s.map.shadow.map Tab.data
  affected := if s.map.phase = .fadeOut ∨ s.map.phase = .fadeIn then some (idsOf s.map.affected) else none

/-- MAP_QUERY (R74). -/
def runMapQuery (s : State) : Reply := s.accept (.map s.mapData)

/-! ## Floor directives (R96) -/

/-- A grant by directive cannot be made now (R96, BUSY). -/
def State.grantBusy (s : State) (r : RoomIx) (a : Addr) : Bool :=
  s.underChangeover r || (s.room r).maxOpen ≤ s.delegateCount r || !s.hasFreeTalk (s.station a).spur

/-- FLOOR GRANT_HEAD (R96). -/
def runFloorGrantHead (r : RoomIx) (s : State) : Reply :=
  if !s.active r then s.refuse .notFound
  else match s.head r with
    | none => s.refuse .notFound
    | some a =>
      if s.grantBusy r a then s.refuse .busy
      else ((s.grant a .directive).endFloorEvent).accept (.floor [a])

/-- The room of a PRESENT station (R96). -/
def State.presentRoom (s : State) (a : Addr) : Option RoomIx :=
  if (s.station a).state = .present then s.stationRoom a else none

/-- FLOOR GRANT (R96). -/
def runFloorGrant (a : Addr) (s : State) : Reply :=
  match s.presentRoom a with
  | none => s.refuse .notFound
  | some r =>
    if (s.station a).mic ≠ .queued then s.refuse .notFound
    else if s.grantBusy r a then s.refuse .busy
    else ((s.grant a .directive).endFloorEvent).accept (.floor [a])

/-- FLOOR CLOSE (R96). -/
def runFloorClose (a : Addr) (s : State) : Reply :=
  match s.presentRoom a with
  | none => s.refuse .notFound
  | some r =>
    if (s.station a).mic ≠ .onAir then s.refuse .notFound
    else ((s.close a (some r) .directive false).endFloorEvent).accept (.floor [a])

/-- FLOOR CANCEL (R96). -/
def runFloorCancel (a : Addr) (s : State) : Reply :=
  match s.presentRoom a with
  | none => s.refuse .notFound
  | some r =>
    if (s.station a).mic ≠ .queued then s.refuse .notFound
    else ((s.removeQueued a (some r) .directive).endFloorEvent).accept (.floor [a])

/-- FLOOR CLEAR_QUEUE (R96). -/
def runFloorClearQueue (r : RoomIx) (s : State) : Reply :=
  if !s.active r then s.refuse .notFound
  else
    let as := (s.queue r).map PoolEntry.addr
    let t : State := as.foldl (fun t a => t.removeQueued a (some r) .directive) s
    t.endFloorEvent.accept (.floor as)

/-- FLOOR CLOSE_ALL (R96). -/
def runFloorCloseAll (r : RoomIx) (s : State) : Reply :=
  if !s.active r then s.refuse .notFound
  else
    let as := s.speakers r
    let t : State := as.foldl (fun t a => t.close a (some r) .directive false) s
    t.endFloorEvent.accept (.floor as)

/-- What QUEUE_QUERY reads (R97). -/
def State.queueData (s : State) (r : RoomIx) : QueueData where
  active := s.active r
  underChangeover := s.underChangeover r
  speakers := (s.speakers r).map fun a =>
    let x := s.station a
    ⟨a, x.spur, x.talk, s.isChair r a, s.floor.priority.get r && !s.isChair r a, x.seconds, x.warning⟩
  queue := (s.queue r).map fun e => (e.addr, (s.station e.addr).spur, e.reentry)
  held := finsWhere 192 fun a => (s.station a).held && s.stationRoom a == some r
  delegates := s.delegateCount r
  priority := s.floor.priority.get r
  poolFill := s.floor.pool.length

/-- QUEUE_QUERY (R97). -/
def runQueueQuery (r : RoomIx) (s : State) : Reply := s.accept (.queue (s.queueData r))

/-! ## Booths and channels -/

/-- The entry after a BOOTH_SET's writes (R124). -/
def Booth.written (b : Booth) (anchor : Option (Option SecIx)) (comp : Option (List Lang))
    (outA outB : Option (Option ChanIx)) (interlock : Option Interlock) : Booth :=
  { b with
    anchor := anchor.getD b.anchor, comprehension := comp.getD b.comprehension, outA := outA.getD b.outA,
    outB := outB.getD b.outB, interlock := interlock.getD b.interlock }

/-- An entry that BOOTH_SET may leave (R124). -/
def Booth.sound (b : Booth) : Bool :=
  !(b.anchor.isSome && (b.outA.isNone || b.comprehension.isEmpty)) && !(b.outB.isSome && b.outA.isNone) &&
    !(b.outA.isSome && b.outA == b.outB)

/-- Another booth has a channel as an output (R124). -/
def State.ownedElsewhere (s : State) (b : BoothIx) (l : ChanIx) : Bool :=
  (lowestFin 8 fun x => x != b && ((s.booth x).outA == some l || (s.booth x).outB == some l)).isSome

/-- BOOTH_SET (R124, R125). DESIGN CHOICE (log 47): the comprehension set is kept in the order carried, so the same codes
in another order are a change. -/
def runBoothSet (b : BoothIx) (anchor : Option (Option SecIx)) (comp : Option (List Lang))
    (outA outB : Option (Option ChanIx)) (interlock : Option Interlock) (s : State) : Reply :=
  let new := (s.booth b).written anchor comp outA outB interlock
  if !new.sound then s.refuse .badField
  else if outA.join.any (s.ownedElsewhere b) || outB.join.any (s.ownedElsewhere b) then s.refuse .conflict
  else
    let t : State := if new = s.booth b then s else (s.updBooth b fun _ => new).boothChanged s b
    t.accept (.booth (t.booth b))

/-- One output of a BOOTH_QUERY (R129). -/
def State.outputData (s : State) (b : BoothIx) (o : Output) : Option OutputData :=
  ((s.booth b).output o).map fun l =>
    let c := s.channel l
    ⟨l, c.code, c.state, c.parked,
      ((s.booth b).standing o).map fun a => (a, (s.station a).booth.map Prod.snd)⟩

/-- The booths whose input is RELAY from a channel of this booth (R129). DESIGN CHOICE (log 60): R129 gives them no order,
and they are listed ascending. -/
def State.relayedFrom (s : State) (b : BoothIx) : List BoothIx :=
  finsWhere 8 fun x =>
    match (s.booth x).input with
    | .relay l => (s.booth b).outA == some l || (s.booth b).outB == some l
    | _ => false

/-- BOOTH_QUERY (R129). -/
def runBoothQuery (b : BoothIx) (s : State) : Reply :=
  s.accept (.boothState (s.booth b) (s.outputData b .a) (s.outputData b .b) (s.relayedFrom b))

/-- A channel's code written (R126). -/
def State.setCode (s : State) (l : ChanIx) (c : Lang) : State :=
  { s with channels := s.channels.modify l fun x => { x with code := c } }

/-- CHANNEL_SET (R126). -/
def runChannelSet (l : ChanIx) (code : Option Lang) (s : State) : Reply :=
  let t : State := match code with
    | none => s
    | some c => if (s.channel l).code = c then s else (s.setCode l c).evaluate s .directive
  let x := t.channel l
  t.accept (.channel x.code (t.owner l) x.room x.state x.parked)

/-! ## Announcement and spurs -/

/-- ANNOUNCE (R167). -/
def runAnnounce (on : Bool) (code : Option Byte) (s : State) : Reply :=
  let t : State := s.announce on code
  t.accept (.announce t.override.source t.override.code t.overrideActive t.overrideLines)

/-- What SPUR_QUERY reads (R15). -/
def State.spurData (s : State) (p : SpurIx) : SpurData where
  up := (s.spur p).link.up
  threshold := (s.spur p).threshold
  failRun := (s.spur p).link.failRun
  goodRun := (s.spur p).link.goodRun
  bad := (s.spur p).badCount
  waiting := (s.spur p).queue.length
  holdTaken := (s.spur p).hold.isSome
  stations := s.stationsOn p

/-- SPUR_QUERY (R15). -/
def runSpurQuery (p : SpurIx) (s : State) : Reply :=
  (s.updSpur p fun x => { x with badCount := 0 }).accept (.spur (s.spurData p))

/-! ## Every directive -/

/-- An order carried out or refused by its owning rule (R182 step 2). -/
def Order.run (o : Order) (s : State) : Reply :=
  match o with
  | .partQuery => runPartQuery s
  | .warmRestart => runWarmRestart s
  | .setTiming p h k => runSetTiming p h k s
  | .bindSeat u a sec d b => runBindSeat ⟨u, a, sec, d.join, b.join⟩ s
  | .unbindSeat u => runUnbindSeat u s
  | .stationSet a sec d b t l => runStationSet a sec d b t l s
  | .stationQuery a => runStationQuery a s
  | .sectionSet ps => runSectionSet ps s
  | .wallSet w u a b p o => runWallSet w u a b p o s
  | .wallQuery f n => runWallQuery f n s
  | .lineSet l f p d => runLineSet l f p d s
  | .profileSet e secs f => runProfileSet e secs f s
  | .profileClear e => runProfileClear e s
  | .roomSet r f => runRoomSet r f s
  | .roomQuery r => runRoomQuery r s
  | .mapQuery => runMapQuery s
  | .floorGrantHead r => runFloorGrantHead r s
  | .floorGrant a => runFloorGrant a s
  | .floorClose a => runFloorClose a s
  | .floorCancel a => runFloorCancel a s
  | .floorClearQueue r => runFloorClearQueue r s
  | .floorCloseAll r => runFloorCloseAll r s
  | .queueQuery r => runQueueQuery r s
  | .boothSet b a c x y i => runBoothSet b a c x y i s
  | .boothQuery b => runBoothQuery b s
  | .channelSet l c => runChannelSet l c s
  | .announce on c => runAnnounce on c s
  | .spurQuery p => runSpurQuery p s

/-- A directive examined and then refused or carried out (R183, R194). -/
def Directive.run (d : Directive) (s : State) : Reply :=
  match examine d.kind d.payload with
  | .refused c => s.refuse c
  | .order o => o.run s

end Sys2Proof.Machine
end

