-- ==== Sys2Proof/Machine/Lane.lean ====
section
/-! DEFINITION. The control lane unit (Chapter 10): assembling directives (R175 to R178), the directive queue (R179,
R180), execution (R182 to R184) and sending reports (R187). -/

namespace Sys2Proof.Machine

/-! ## Assembly -/

/-- Outcomes of one byte taken by the assembly state (R175, R176). -/
inductive Taken where
  | goesOn (a : Assembly)
  | stray
  | fault (cause : Reason)
  | assembled (d : Directive)
  deriving DecidableEq, Repr

/-- A byte stored inside a directive: the gap count starts again (R175). -/
def Assembly.step (a : Assembly) (next : AssemblyState) : Assembly :=
  { a with state := next, gap := 0, taken := a.taken + 1 }

/-- The sum of kind, tag, length, payload and check, modulo 256 (R176). -/
def Assembly.sum (a : Assembly) (check : Byte) : Byte :=
  a.payload.foldl (· + ·) (a.kind + a.tag + a.length) + check

/-- A lane byte taken by the assembly state (R175, R176, R178). -/
def Assembly.take (a : Assembly) (b : Byte) : Taken :=
  match a.state with
  | .waitStart => if b = 0xA5 then .goesOn { Assembly.initial with state := .kind, taken := 1 } else .stray
  | .kind => .goesOn { a.step .tag with kind := b }
  | .tag => .goesOn { a.step .length with tag := b }
  | .length =>
    if Config.payloadMax < b.toNat then .fault .length
    else if b = 0 then .goesOn { a.step .check with length := b, expected := 0 }
    else .goesOn { a.step .payload with length := b, expected := b.toNat }
  | .payload =>
    .goesOn { a.step (if a.expected ≤ 1 then .check else .payload) with
      payload := a.payload ++ [b], expected := a.expected - 1 }
  | .check => if a.sum b = 0 then .assembled ⟨a.kind, a.tag, a.payload⟩ else .fault .check

/-- The assembly buffer written. -/
def State.setAssembly (s : State) (a : Assembly) : State := { s with lane := { s.lane with assembly := a } }

/-- A directive discarded because the queue is full, noted in the overrun record (R179). -/
def noteOverrun (o : Option Overrun) (tag : Byte) : Overrun :=
  match o with
  | none => ⟨1, tag, tag⟩
  | some o => ⟨min (o.count + 1) Config.overrunMax, o.first, tag⟩

/-- An assembled directive appended to the queue, or discarded into the overrun record (R179). -/
def State.enqueueDirective (s : State) (d : Directive) : State :=
  if s.lane.directives.length < Config.directiveQueueSize then
    { s with lane := { s.lane with directives := s.lane.directives ++ [d] } }
  else { s with lane := { s.lane with overrun := some (noteOverrun s.lane.overrun d.tag) } }

/-- A FRAME_ERROR report placed, with the buffer emptied (R176, R188). -/
def State.frameError (s : State) (cause : Reason) : State :=
  (s.setAssembly .initial).place (.lane (.frameError cause))

/-- A stray byte counted (R178). -/
def State.countStray (s : State) : State :=
  { s with lane := { s.lane with stray := min (s.lane.stray + 1) Config.countMax } }

/-- The partial directive discarded by the gap timeout (R177). -/
def State.gapTimeout (s : State) : State :=
  let a := s.lane.assembly
  let tag := match a.state with
    | .waitStart => none
    | .kind => none
    | .tag => none
    | .length => some a.tag
    | .payload => some a.tag
    | .check => some a.tag
  (s.setAssembly .initial).place (.lane (.frameTimeout a.taken tag))

/-- The gap count has reached 9 (R177). -/
def State.gapDue (s : State) : Bool := s.lane.assembly.state != .waitStart && Config.gapLimit ≤ s.lane.assembly.gap

/-- A gap timeout that is due is taken before anything else of the lane. -/
def State.settleGap (s : State) : State := if s.gapDue then s.gapTimeout else s

/-- One lane byte taken by the control lane unit (R175). -/
def State.takeByte (s : State) (b : Byte) : State :=
  match s.lane.assembly.take b with
  | .goesOn a => s.setAssembly a
  | .stray => s.countStray
  | .fault c => s.frameError c
  | .assembled d => (s.setAssembly .initial).enqueueDirective d

/-- A frame period ends with no byte taken inside a directive (R177). -/
def State.countGap (s : State) : State :=
  let a := s.lane.assembly
  if a.state = .waitStart then s else s.setAssembly { a with gap := min (a.gap + 1) Config.gapLimit }

/-! ## Execution -/

/-- The head of the directive queue may be executed (R182). -/
def State.canExecute (s : State) : Bool :=
  !s.lane.directives.isEmpty && s.lane.reports.length + 2 ≤ Config.reportQueueSize

/-- The RESULT placed in the reserved entry (R182 step 4). -/
def State.placeResult (s : State) (d : Directive) (code : ResultCode) (data : ResultData) : State :=
  { s with lane := { s.lane with
      reports := s.lane.reports ++ [⟨.result d.kind d.tag code data, false⟩], reserved := false } }

/-- The executed directive leaves the queue, and the overrun record is reported (R180, R182 step 5). -/
def State.leaveQueue (s : State) : State :=
  let t : State := { s with lane := { s.lane with directives := s.lane.directives.tail, overrun := none } }
  match s.lane.overrun with
  | some o => t.place (.lane (.directiveOverrun o.count o.first o.latest))
  | none => t

/-- One directive executed (R182), it being the head of the queue. -/
def State.executeDirective (s : State) (d : Directive) : State :=
  let r := d.run { s with lane := { s.lane with reserved := true } }
  (r.state.placeResult d r.code r.data).leaveQueue

/-- The head of the directive queue executed when it may be (R182). -/
def State.executeHead (s : State) : State :=
  match s.lane.directives with
  | d :: _ => if s.canExecute then s.executeDirective d else s
  | [] => s

/-- A directive handed whole to the directive queue, as the commands of the table are: a payload that no length byte can
give is a length fault (R176); into an empty queue it is executed at once when it may be (R182); behind others it
waits. -/
def State.submit (s : State) (d : Directive) : State :=
  if Config.payloadMax < d.payload.length then s.place (.lane (.frameError .length))
  else if s.lane.directives.isEmpty then (s.enqueueDirective d).executeHead
  else s.enqueueDirective d

/-! ## Sending reports (R187) -/

/-- One lane byte position filled: the next byte of the oldest report, or nothing. -/
def LaneUnit.sendByte (l : LaneUnit) : Option Byte × LaneUnit :=
  match l.reports with
  | [] => (none, l)
  | q :: qs =>
    let bs := q.bytes
    let l' : LaneUnit := if l.sent + 1 < bs.length then { l with sent := l.sent + 1 } else { l with reports := qs, sent := 0 }
    (some (bs.getD l.sent 0), l')

/-- At most n lane byte positions filled. -/
def LaneUnit.sendBytes : Nat → LaneUnit → List Byte × LaneUnit
  | 0, l => ([], l)
  | n + 1, l =>
    match l.sendByte with
    | (none, l') => ([], l')
    | (some b, l') =>
      let r := LaneUnit.sendBytes n l'
      (b :: r.1, r.2)

end Sys2Proof.Machine
end

