-- ==== Sys2Proof/Machine/Links.lean ====
section
/-! DEFINITION. The trunk and spur links (Chapter 1): run counts (R4, R12), received frames (R3, R6, R8, R10, R11), the
trunk's changes of state (R1, R4), and what a frame period sends and counts (R2, R5 to R7, R16, R30, R32, R36, R98). -/

namespace Sys2Proof.Machine

/-! ## Run counts -/

/-- A link's change of state is due (R4, R12). -/
def Link.due (l : Link) : Bool := if l.up then Config.failLimit ≤ l.failRun else Config.goodLimit ≤ l.goodRun

/-- A classified period counted (R4, R12). While a change of state is due the counts stand at it. -/
def Link.count (l : Link) (good : Bool) : Link :=
  if l.due then l
  else match l.up, good with
    | true, true => { l with failRun := 0 }
    | true, false => { l with failRun := l.failRun + 1 }
    | false, true => { l with goodRun := l.goodRun + 1 }
    | false, false => { l with goodRun := 0 }

/-- Whether an arrival is good. -/
def Arrival.isGood : Arrival → Bool
  | .good _ => true
  | .failed => false
  | .absent => false

/-! ## Trunk frames received -/

/-- The inject samples of a period (R3, R6). -/
def trunkSamples (up : Bool) (x : Arrival) : Tab 4 Sample :=
  match x with
  | .good fields => if up then trunkInject fields else .fill 4 0
  | _ => .fill 4 0

/-- The lane bytes a period hands to the control lane unit (R3, R6). -/
def trunkHands (up : Bool) (x : Arrival) : List Byte :=
  match x with
  | .good fields => if up then trunkLaneBytes fields else []
  | _ => []

/-- A frame period's downstream trunk frame taken (R3, R4, R6, R177). -/
def State.receiveTrunk (s : State) (rx : Option (List Byte)) : State :=
  let x := classify 0x47B8 21 rx
  let up := s.trunk.link.up
  let bytes := trunkHands up x
  let t : State := { s with
    trunk := { s.trunk with inject := trunkSamples up x, link := s.trunk.link.count x.isGood }
    handed := s.handed ++ bytes.map .laneByte }
  if bytes.isEmpty then t.countGap else t

/-- The trunk enters DOWN when its fail run has reached 48 (R1, R4). -/
def State.trunkDown (s : State) : State :=
  if s.trunk.link.up && s.trunk.link.due then
    let t : State := { s with trunk := { s.trunk with link := .initial, clock := .localOsc, downFrames := 0 } }
    t.place (.lane .trunkLost)
  else s

/-- The trunk enters UP when its good run has reached 480 (R1, R4). -/
def State.trunkUp (s : State) : State :=
  if !s.trunk.link.up && s.trunk.link.due then
    let t : State := { s with trunk := { s.trunk with link := { up := true, failRun := 0, goodRun := 0 }, clock := .recovered } }
    t.place (.lane (.trunkRestored (min (s.trunk.downFrames / Config.framesPerSecond) Config.countMax)))
  else s

/-! ## Spur frames received -/

/-- The talk-slot samples of a period (R8). -/
def spurSamples (up : Bool) (x : Arrival) : Tab 16 Sample :=
  match x with
  | .good fields => if up then spurTalk fields else .fill 16 0
  | _ => .fill 16 0

/-- Whether the reply window answers an address (R11, R192). -/
def replied (x : Arrival) (a : Addr) : Bool :=
  match x with
  | .good fields => (spurReply fields).toNat == a.val + 1
  | _ => false

/-- The threshold F and the event a period gives (R10). -/
def windowOutcome (p : SpurIx) (x : Arrival) : Nat × Option Instr :=
  match x with
  | .good fields => eventWindow p fields
  | _ => (0, none)

/-- A spur's upstream frame taken (R8, R10, R11, R12, R15). -/
def State.receiveSpur (s : State) (p : SpurIx) (rx : Option (List Byte)) : State :=
  let x := classify 0x5C3B 66 rx
  let up := (s.spur p).link.up
  let outcome := windowOutcome p x
  let t : State := s.updSpur p fun y =>
    { y with
      link := y.link.count x.isGood, talkIn := spurSamples up x,
      badCount := if x.isGood then y.badCount else min (y.badCount + 1) Config.countMax,
      threshold := if up then outcome.1 else 0 }
  if up then
    let t : State := t.replyOutcome p (replied x)
    { t with handed := t.handed ++ outcome.2.toList }
  else t

/-- A spur enters DOWN when its fail run has reached 48 (R12, R13). -/
def State.spurFalls (s : State) (p : SpurIx) : State :=
  if (s.spur p).link.up && (s.spur p).link.due then s.spurDown p else s

/-- A spur enters UP when its good run has reached 480 (R12, R14). -/
def State.spurRises (s : State) (p : SpurIx) : State :=
  if !(s.spur p).link.up && (s.spur p).link.due then s.spurUp p else s

/-! ## Frames sent -/

/-- The upstream trunk frame of a period (R5, R6, R187). -/
def State.sendTrunk (s : State) : State :=
  if s.trunk.link.up then
    let sent := LaneUnit.sendBytes 4 s.lane
    let out : TrunkOut := ⟨s.mix.floors, s.mix.channels, sent.1, s.laneReady⟩
    { s with lane := sent.2, trunk := { s.trunk with out := out } }
  else { s with trunk := { s.trunk with out := ⟨.fill 16 0, .fill 12 0, [], false⟩ } }

/-- The sample of a channel id (R7, R157). -/
def MixUnit.sampleOf (m : MixUnit) : ChanId → Sample
  | .floor r => m.floors.get r
  | .channel l => m.channels.get l
  | .feed b => m.feeds.get b

/-- The command-window arbiter (R30): what goes out, and the spur it leaves. -/
def Spur.arbitrate (stations : Tab 192 Station) (p : Spur) : Option Command × Spur :=
  match p.assign.find? fun e => !e.awaiting with
  | some e =>
    (some (.to e.addr (.assign e.uid)),
      { p with assign := p.assign.map fun x => if x.addr = e.addr then { x with awaiting := true } else x })
  | none =>
    match p.retry with
    | c :: cs => (some c, { p with retry := cs })
    | [] =>
      match p.queue with
      | c :: _ => (some c, p.dropHead stations)
      | [] =>
        match p.pollRequest with
        | some a => (some (.to a .poll), { p with pollRequest := none })
        | none => (none, p)

/-- A spur's downstream frame of a period (R7), with the command whose outcome the next upstream frame gives (R11). DESIGN
CHOICE (log 49): a slot carries the last computation's sample of the id it holds now (R137, R157). -/
def Spur.send (stations : Tab 192 Station) (m : MixUnit) (p : Spur) : Spur :=
  if p.link.up then
    let listen := p.listenSlots.map fun x => (x.map fun y => m.sampleOf y.1).getD 0
    let r := p.arbitrate stations
    { r.2 with remembered := p.sent, sent := r.1, out := ⟨listen, r.1, p.threshold⟩ }
  else { p with remembered := none, sent := none, out := ⟨.fill 16 0, none, 0⟩ }

/-- Every spur's downstream frame (R7). -/
def State.sendSpurs (s : State) : State := { s with spurs := s.spurs.map (Spur.send s.stations s.mix) }

/-! ## What a frame period counts -/

/-- The epoch counter at the start of a frame period (R2). -/
def Trunk.advance (t : Trunk) : Trunk :=
  if t.started then
    let e := (t.epoch + 1) % Config.epochFrames
    { t with epoch := e, epochDue := t.epochDue || e == 0 }
  else { t with started := true }

/-- The frame periods spent DOWN, for TRUNK_RESTORED (R4). -/
def Trunk.countDown (t : Trunk) : Trunk := if t.link.up then t else { t with downFrames := t.downFrames + 1 }

/-- Every contact line sampled (R16, R43). -/
def State.sampleLines (s : State) (levels : Tab 24 LineLevel) : State :=
  { s with lines := .ofFn fun l =>
      if s.trunk.started then Line.sample (levels.get l) (s.line l) else Line.firstSample (levels.get l) (s.line l) }

/-- One frame of a delegate's speaking time (R98). -/
def Station.countSecond (r : Station) : Station :=
  if r.subFrames + 1 < Config.framesPerSecond then { r with subFrames := r.subFrames + 1 }
  else { r with subFrames := 0, seconds := min (r.seconds + 1) Config.secondsMax }

/-- One frame of a station record's counts: the lost hold (R36) and the speaking time (R98). -/
def State.countStation (s : State) (a : Addr) : Station :=
  let r := s.station a
  let r : Station := if (s.timedRoom a).isSome then r.countSecond else r
  if r.state = .lost then { r with holdLeft := r.holdLeft - 1 } else r

/-- One frame of every station record's counts. -/
def State.countStations (s : State) : State := { s with stations := .ofFn s.countStation }

/-- One frame of every poll timer (R32), with the talk-slot samples of the new period not yet arrived. -/
def State.countSpurs (s : State) : State :=
  { s with spurs := s.spurs.map fun p => { p with pollTimer := p.pollTimer + 1, talkIn := .fill 16 0 } }

/-- A frame period of the part begins (R2): the frames go out, the lines are sampled, and everything that counts frames
counts one. -/
def State.beginPeriod (s : State) (levels : Tab 24 LineLevel) : State :=
  let t : State := ((s.sampleLines levels).sendTrunk).sendSpurs
  let t : State := t.countStations.countSpurs
  { t with trunk := { t.trunk.advance.countDown with inject := .fill 4 0 } }

end Sys2Proof.Machine
end

