-- ==== Sys2Proof/Machine/Due.lean ====
section
/-! DEFINITION. Each step of the table that is not a directive, as a function of the state: a step the part takes by
itself acts only while the state makes it due, and otherwise leaves the part as it is. Then the step that is due
(`dueStep`), and the taking of every due step (`settle`). DESIGN CHOICE (log 2). -/

namespace Sys2Proof.Machine

/-! ## Events from stations (R8, R21, R23, R193) -/

/-- JOIN (R21). -/
def State.onJoin (s : State) (p : SpurIx) (uid : Uid) (arg0 arg1 : Byte) : State :=
  s.fromSpur (.join p uid arg0 arg1) p fun t => t.joinEvent p uid arg0 arg1

/-- PRESS (R83). -/
def State.onPress (s : State) (p : SpurIx) (a : Addr) (uid : Uid) : State :=
  s.fromSpur (.press p a uid) p fun t =>
    t.routeEvent p a uid fun t => t.fromDelegate a fun t => t.floorPress a

/-- RELEASE (R87). -/
def State.onRelease (s : State) (p : SpurIx) (a : Addr) (uid : Uid) : State :=
  s.fromSpur (.release p a uid) p fun t =>
    t.routeEvent p a uid fun t => t.fromDelegate a fun t => t.floorRelease a

/-- CANCEL (R87). -/
def State.onCancel (s : State) (p : SpurIx) (a : Addr) (uid : Uid) : State :=
  s.fromSpur (.cancel p a uid) p fun t =>
    t.routeEvent p a uid fun t => t.fromDelegate a fun t => t.floorCancel a

/-- NEXT (R91). -/
def State.onNext (s : State) (p : SpurIx) (a : Addr) (uid : Uid) : State :=
  s.fromSpur (.next p a uid) p fun t =>
    t.routeEvent p a uid fun t => t.fromDelegate a fun t => t.floorNext a

/-- PRIORITY_PRESS (R93). -/
def State.onPriorityPress (s : State) (p : SpurIx) (a : Addr) (uid : Uid) : State :=
  s.fromSpur (.priorityPress p a uid) p fun t =>
    t.routeEvent p a uid fun t => t.fromKey a fun t => t.floorPriorityPress a

/-- PRIORITY_RELEASE (R94). -/
def State.onPriorityRelease (s : State) (p : SpurIx) (a : Addr) (uid : Uid) : State :=
  s.fromSpur (.priorityRelease p a uid) p fun t =>
    t.routeEvent p a uid fun t => t.fromKey a fun t => t.floorPriorityRelease a

/-- CONSOLE_ON (R117). -/
def State.onConsoleOn (s : State) (p : SpurIx) (a : Addr) (uid : Uid) (arg0 : Byte) : State :=
  s.fromSpur (.consoleOn p a uid arg0) p fun t => t.consoleOnEvent p a uid arg0

/-- CONSOLE_OFF (R121). -/
def State.onConsoleOff (s : State) (p : SpurIx) (a : Addr) (uid : Uid) : State :=
  s.fromSpur (.consoleOff p a uid) p fun t =>
    t.routeEvent p a uid fun t => t.fromConsole a fun t => t.consoleOff a

/-- SELECT (R134). -/
def State.onSelect (s : State) (p : SpurIx) (a : Addr) (uid : Uid) (arg0 : Byte) : State :=
  s.fromSpur (.select p a uid arg0) p fun t => t.selectEvent p a uid arg0

/-! ## The lane -/

/-- LANE_BYTE (R175), taken while the trunk is UP (R6). -/
def State.onLaneByte (s : State) (b : Byte) : State :=
  let t : State := s.unhand (.laneByte b)
  if t.trunk.link.up then t.settleGap.takeByte b else t

/-! ## Steps the part takes by itself -/

/-- EPOCH_BOUNDARY (R67). -/
def State.onEpoch (s : State) : State :=
  if s.trunk.epochDue then State.boundary { s with trunk := { s.trunk with epochDue := false } } else s

/-- A poll timer has reached the poll spacing (R32). -/
def State.pollDue (s : State) (p : SpurIx) : Bool := s.pollSpacing ≤ (s.spur p).pollTimer

/-- POLL_TIMER_FIRE (R32). -/
def State.onPollTimer (s : State) (p : SpurIx) : State := if s.pollDue p then s.firePoll p else s

/-- A LOST record's hold has reached 0 (R36). -/
def State.expiryDue (s : State) (a : Addr) : Bool := (s.station a).state == .lost && (s.station a).holdLeft == 0

/-- LOST_HOLD_EXPIRY (R36). -/
def State.onExpiry (s : State) (a : Addr) : State := if s.expiryDue a then s.expire a else s

/-- A debounced change is due (R43 step 2). -/
def Line.due (l : Line) : Bool := l.changeDue && l.lastRaw != l.debounced

/-- DEBOUNCED_CHANGE (R44). -/
def State.onDebounced (s : State) (l : LineIx) : State := if (s.line l).due then s.debouncedChange l else s

/-- A re-read is due (R43 step 3). -/
def Line.readDue (l : Line) : Bool := l.rereadDue && l.reread

/-- LINE_RE_READ (R50). -/
def State.onReread (s : State) (l : LineIx) : State := if (s.line l).readDue then s.reread l else s

/-- FADE_OUT_END (R69). -/
def State.onFadeOutEnd (s : State) : State := if s.fadedOut then s.endFadeOut else s

/-- FADE_IN_END (R71). -/
def State.onFadeInEnd (s : State) : State := if s.fadedIn then s.endFadeIn else s

/-- A delegate's on-air seconds are in the warning period that it has not entered (R98). -/
def State.warnDue (s : State) (a : Addr) : Bool :=
  match s.timedRoom a with
  | none => false
  | some r =>
    let x := s.station a
    warns (s.room r).speakLimit x.seconds && x.seconds < (s.room r).speakLimit && !x.warning

/-- WARNING_PERIOD_START (R98). -/
def State.onWarning (s : State) (a : Addr) : State :=
  if s.warnDue a then (s.updStation a fun x => { x with warning := true }).offerIfChanged s a else s

/-- A delegate's on-air seconds have reached the speak limit (R98). -/
def State.limitDue (s : State) (a : Addr) : Bool :=
  match s.timedRoom a with
  | none => false
  | some r => (s.room r).speakLimit != 0 && (s.room r).speakLimit ≤ (s.station a).seconds

/-- SPEAK_LIMIT_CLOSE (R98). -/
def State.onLimit (s : State) (a : Addr) : State :=
  if s.limitDue a then (s.close a (s.stationRoom a) .time false).endFloorEvent else s

/-- A delegate's silence frames have reached the timeout (R99). -/
def State.silenceDue (s : State) (a : Addr) : Bool :=
  match s.timedRoom a with
  | none => false
  | some r =>
    (s.room r).silenceTimeout != 0 && (s.room r).silenceTimeout * Config.framesPerSecond ≤ (s.station a).silence

/-- SILENCE_CLOSE (R99). -/
def State.onSilence (s : State) (a : Addr) : State :=
  if s.silenceDue a then (s.close a (s.stationRoom a) .silence false).endFloorEvent else s

/-! ## What is due -/

/-- A step of the trunk link that is due (R4). -/
def State.trunkStep (s : State) : Option Instr :=
  if s.trunk.link.due then some (if s.trunk.link.up then .trunkLinkDown else .trunkLinkUp) else none

/-- A step of a spur link that is due (R12), the lowest spur first. -/
def State.spurStep (s : State) : Option Instr :=
  (lowestFin 4 fun p => (s.spur p).link.due).map fun p =>
    if (s.spur p).link.up then .spurLinkDown p else .spurLinkUp p

/-- A step of a contact line that is due (R43), the lowest line first, its debounced change before its re-read. -/
def State.lineStep (s : State) : Option Instr :=
  (lowestFin 24 fun l => (s.line l).due || (s.line l).readDue).map fun l =>
    if (s.line l).due then .debouncedChange l else .lineReRead l

/-- A delegate's step that is due (R98, R99), in the order warning, limit, silence. -/
def State.delegateStep (s : State) : Option Instr :=
  ((lowestFin 192 s.warnDue).map Instr.warningPeriodStart).or
    (((lowestFin 192 s.limitDue).map Instr.speakLimitClose).or
      ((lowestFin 192 s.silenceDue).map Instr.silenceClose))

/-- The step of the changeover machine that is due (R68, R71). -/
def State.fadeStep (s : State) : Option Instr :=
  if s.fadedOut && s.map.shadow.isSome then some .fadeOutEnd else if s.fadedIn then some .fadeInEnd else none

/-- The step that is due first: what a received frame handed on, then the steps of the part's own counts and tests in
one fixed order. DESIGN CHOICE (log 2): the source leaves the order of steps that fall due together to the world. -/
def State.dueStep (s : State) : Option Instr :=
  s.handed.head?.or <|
  (if s.gapDue then some Instr.frameTimeout else none).or <|
  s.trunkStep.or <|
  s.spurStep.or <|
  (if s.trunk.epochDue then some Instr.epochBoundary else none).or <|
  s.lineStep.or <|
  ((lowestFin 4 s.pollDue).map Instr.pollTimerFire).or <|
  ((lowestFin 192 s.expiryDue).map Instr.lostHoldExpiry).or <|
  s.delegateStep.or <|
  s.fadeStep.or <|
  if s.canExecute then some Instr.directiveExecution else none

/-- A step that can be due, taken; any other command is not taken here. -/
def State.take (s : State) (c : Instr) : State :=
  match c with
  | .epochBoundary => s.onEpoch
  | .trunkLinkDown => s.trunkDown
  | .trunkLinkUp => s.trunkUp
  | .spurLinkDown p => s.spurFalls p
  | .spurLinkUp p => s.spurRises p
  | .join p u x y => s.onJoin p u x y
  | .press p a u => s.onPress p a u
  | .release p a u => s.onRelease p a u
  | .cancel p a u => s.onCancel p a u
  | .next p a u => s.onNext p a u
  | .priorityPress p a u => s.onPriorityPress p a u
  | .priorityRelease p a u => s.onPriorityRelease p a u
  | .consoleOn p a u x => s.onConsoleOn p a u x
  | .consoleOff p a u => s.onConsoleOff p a u
  | .select p a u x => s.onSelect p a u x
  | .pollTimerFire p => s.onPollTimer p
  | .lostHoldExpiry a => s.onExpiry a
  | .debouncedChange l => s.onDebounced l
  | .lineReRead l => s.onReread l
  | .fadeOutEnd => s.onFadeOutEnd
  | .fadeInEnd => s.onFadeInEnd
  | .warningPeriodStart a => s.onWarning a
  | .speakLimitClose a => s.onLimit a
  | .silenceClose a => s.onSilence a
  | .laneByte b => s.onLaneByte b
  | .frameTimeout => s.settleGap
  | .directiveExecution => s.executeHead
  | c => s.unhand c

/-- At most n due steps taken, each the first that is then due. -/
def State.settle : Nat → State → State
  | 0, s => s
  | n + 1, s =>
    match s.dueStep with
    | some c => (s.take c).settle n
    | none => s

/-- More steps than can fall due within one frame period. -/
def settleFuel : Nat := 4096

/-- FRAME_COMPUTATION (R145): made on the tables as they stand after the events of the period, so what the period made
due is taken first. -/
def State.onComputation (s : State) : State := (s.settle settleFuel).compute

/-- FRAME_PERIOD_START (R2): what the period before it made due is taken, then the period begins. -/
def State.onPeriod (s : State) (levels : Tab 24 LineLevel) : State := (s.settle settleFuel).beginPeriod levels

end Sys2Proof.Machine
end

