-- ==== Sys2Proof/Machine/Commands.lean ====
section
/-! DEFINITION. The meanings of the commands that are not directives, one for each row of the table. Every one of them
has its effect, or none where it is not due, and answers a next state. -/

namespace Sys2Proof.Machine

/-- What a command answers. -/
abbrev Answer := Host.Outcome State Fault Refusal

/-- POWER_ON (R40, R42, R48, R49, R56, R57, R60, R65, R107 to R109, R130, R144, R163, R174, R191): the power-on state of
everything but the queue of commands that wait. -/
def execPowerOn (s : State) : Answer := .next { State.reset with pending := s.pending }

/-- FRAME_PERIOD_START (R2, R5 to R7, R16, R30, R32, R36, R43, R98). -/
def execFramePeriodStart (levels : Tab 24 LineLevel) (s : State) : Answer := .next (s.onPeriod levels)

/-- EPOCH_BOUNDARY (R67). -/
def execEpochBoundary (s : State) : Answer := .next s.onEpoch

/-- TRUNK_FRAME_RECEIVE (R3, R4, R6, R177). -/
def execTrunkFrameReceive (rx : Option (List Byte)) (s : State) : Answer := .next (s.receiveTrunk rx)

/-- TRUNK_LINK_DOWN (R1, R4). -/
def execTrunkLinkDown (s : State) : Answer := .next s.trunkDown

/-- TRUNK_LINK_UP (R1, R4). -/
def execTrunkLinkUp (s : State) : Answer := .next s.trunkUp

/-- SPUR_FRAME_RECEIVE (R8, R10 to R12, R15, R22, R31). -/
def execSpurFrameReceive (p : SpurIx) (rx : Option (List Byte)) (s : State) : Answer := .next (s.receiveSpur p rx)

/-- SPUR_LINK_DOWN (R13, R35). -/
def execSpurLinkDown (p : SpurIx) (s : State) : Answer := .next (s.spurFalls p)

/-- SPUR_LINK_UP (R14). -/
def execSpurLinkUp (p : SpurIx) (s : State) : Answer := .next (s.spurRises p)

/-- JOIN (R21, R193). -/
def execJoin (p : SpurIx) (uid : Uid) (arg0 arg1 : Byte) (s : State) : Answer := .next (s.onJoin p uid arg0 arg1)

/-- PRESS (R23, R83 to R86, R92). -/
def execPress (p : SpurIx) (a : Addr) (uid : Uid) (s : State) : Answer := .next (s.onPress p a uid)

/-- RELEASE (R23, R87, R89). -/
def execRelease (p : SpurIx) (a : Addr) (uid : Uid) (s : State) : Answer := .next (s.onRelease p a uid)

/-- CANCEL (R23, R87). -/
def execCancel (p : SpurIx) (a : Addr) (uid : Uid) (s : State) : Answer := .next (s.onCancel p a uid)

/-- NEXT (R23, R91). -/
def execNext (p : SpurIx) (a : Addr) (uid : Uid) (s : State) : Answer := .next (s.onNext p a uid)

/-- PRIORITY_PRESS (R23, R93). -/
def execPriorityPress (p : SpurIx) (a : Addr) (uid : Uid) (s : State) : Answer := .next (s.onPriorityPress p a uid)

/-- PRIORITY_RELEASE (R23, R94). -/
def execPriorityRelease (p : SpurIx) (a : Addr) (uid : Uid) (s : State) : Answer :=
  .next (s.onPriorityRelease p a uid)

/-- CONSOLE_ON (R23, R117 to R120, R193). -/
def execConsoleOn (p : SpurIx) (a : Addr) (uid : Uid) (arg0 : Byte) (s : State) : Answer :=
  .next (s.onConsoleOn p a uid arg0)

/-- CONSOLE_OFF (R23, R121). -/
def execConsoleOff (p : SpurIx) (a : Addr) (uid : Uid) (s : State) : Answer := .next (s.onConsoleOff p a uid)

/-- SELECT (R23, R134, R193). -/
def execSelect (p : SpurIx) (a : Addr) (uid : Uid) (arg0 : Byte) (s : State) : Answer :=
  .next (s.onSelect p a uid arg0)

/-- POLL_TIMER_FIRE (R32, R33). -/
def execPollTimerFire (p : SpurIx) (s : State) : Answer := .next (s.onPollTimer p)

/-- LOST_HOLD_EXPIRY (R36). -/
def execLostHoldExpiry (a : Addr) (s : State) : Answer := .next (s.onExpiry a)

/-- DEBOUNCED_CHANGE (R43, R44, R50, R166, R172). -/
def execDebouncedChange (l : LineIx) (s : State) : Answer := .next (s.onDebounced l)

/-- LINE_RE_READ (R43, R50). -/
def execLineReRead (l : LineIx) (s : State) : Answer := .next (s.onReread l)

/-- FADE_OUT_END (R69, R104, R105, R128, R136, R150). -/
def execFadeOutEnd (s : State) : Answer := .next s.onFadeOutEnd

/-- FADE_IN_END (R71, R106). -/
def execFadeInEnd (s : State) : Answer := .next s.onFadeInEnd

/-- FRAME_COMPUTATION (R145 to R162, R99, R71). -/
def execFrameComputation (s : State) : Answer := .next s.onComputation

/-- WARNING_PERIOD_START (R98). -/
def execWarningPeriodStart (a : Addr) (s : State) : Answer := .next (s.onWarning a)

/-- SPEAK_LIMIT_CLOSE (R98). -/
def execSpeakLimitClose (a : Addr) (s : State) : Answer := .next (s.onLimit a)

/-- SILENCE_CLOSE (R99). -/
def execSilenceClose (a : Addr) (s : State) : Answer := .next (s.onSilence a)

/-- LANE_BYTE (R175, R176, R178, R179). -/
def execLaneByte (b : Byte) (s : State) : Answer := .next (s.onLaneByte b)

/-- FRAME_TIMEOUT (R177). -/
def execFrameTimeout (s : State) : Answer := .next s.settleGap

/-- DIRECTIVE_EXECUTION (R180, R182 to R184, R194). -/
def execDirectiveExecution (s : State) : Answer := .next s.executeHead

end Sys2Proof.Machine
end

