-- ==== Sys2Proof/Machine/DirectiveRows.lean ====
section
/-! DEFINITION. The meanings of the directive rows: each is its directive handed whole to the directive queue
(`State.submit`), where it is examined (R183, R194) and carried out by its own definition in Machine/Directives.lean.
A row's bytes are those of its payload; a FLOOR row's are those after the action byte. -/

namespace Sys2Proof.Machine

/-- UNKNOWN_DIRECTIVE (R183, R194): refused with BAD_FIELD. -/
def execUnknownDirective (kind tag : Byte) (payload : List Byte) (s : State) : Answer :=
  .next (s.submit ⟨kind, tag, payload⟩)

/-- PART_QUERY (R189). -/
def execPartQuery (tag : Byte) (payload : List Byte) (s : State) : Answer :=
  .next (s.submit ⟨0x01, tag, payload⟩)

/-- WARM_RESTART (R190). -/
def execWarmRestart (tag : Byte) (payload : List Byte) (s : State) : Answer :=
  .next (s.submit ⟨0x02, tag, payload⟩)

/-- SET_TIMING (R39, R67). -/
def execSetTiming (tag : Byte) (payload : List Byte) (s : State) : Answer :=
  .next (s.submit ⟨0x03, tag, payload⟩)

/-- BIND_SEAT (R19). -/
def execBindSeat (tag : Byte) (payload : List Byte) (s : State) : Answer :=
  .next (s.submit ⟨0x04, tag, payload⟩)

/-- UNBIND_SEAT (R20). -/
def execUnbindSeat (tag : Byte) (payload : List Byte) (s : State) : Answer :=
  .next (s.submit ⟨0x05, tag, payload⟩)

/-- STATION_SET (R37, R63, R103, R123). -/
def execStationSet (tag : Byte) (payload : List Byte) (s : State) : Answer :=
  .next (s.submit ⟨0x06, tag, payload⟩)

/-- STATION_QUERY (R38). -/
def execStationQuery (tag : Byte) (payload : List Byte) (s : State) : Answer :=
  .next (s.submit ⟨0x07, tag, payload⟩)

/-- SECTION_SET (R48, R72). -/
def execSectionSet (tag : Byte) (payload : List Byte) (s : State) : Answer :=
  .next (s.submit ⟨0x08, tag, payload⟩)

/-- WALL_SET (R51 to R53). -/
def execWallSet (tag : Byte) (payload : List Byte) (s : State) : Answer :=
  .next (s.submit ⟨0x09, tag, payload⟩)

/-- WALL_QUERY (R54). -/
def execWallQuery (tag : Byte) (payload : List Byte) (s : State) : Answer :=
  .next (s.submit ⟨0x0A, tag, payload⟩)

/-- LINE_SET (R45 to R47). -/
def execLineSet (tag : Byte) (payload : List Byte) (s : State) : Answer :=
  .next (s.submit ⟨0x0B, tag, payload⟩)

/-- PROFILE_SET (R60). -/
def execProfileSet (tag : Byte) (payload : List Byte) (s : State) : Answer :=
  .next (s.submit ⟨0x0C, tag, payload⟩)

/-- PROFILE_CLEAR (R61). -/
def execProfileClear (tag : Byte) (payload : List Byte) (s : State) : Answer :=
  .next (s.submit ⟨0x0D, tag, payload⟩)

/-- ROOM_SET (R62, R95, R100, R127). -/
def execRoomSet (tag : Byte) (payload : List Byte) (s : State) : Answer :=
  .next (s.submit ⟨0x0E, tag, payload⟩)

/-- ROOM_QUERY (R64). -/
def execRoomQuery (tag : Byte) (payload : List Byte) (s : State) : Answer :=
  .next (s.submit ⟨0x0F, tag, payload⟩)

/-- MAP_QUERY (R74). -/
def execMapQuery (tag : Byte) (payload : List Byte) (s : State) : Answer :=
  .next (s.submit ⟨0x16, tag, payload⟩)

/-- FLOOR with action GRANT_HEAD (R96). -/
def execFloorGrantHead (tag : Byte) (rest : List Byte) (s : State) : Answer :=
  .next (s.submit ⟨0x10, tag, 0 :: rest⟩)

/-- FLOOR with action GRANT (R96). -/
def execFloorGrant (tag : Byte) (rest : List Byte) (s : State) : Answer :=
  .next (s.submit ⟨0x10, tag, 1 :: rest⟩)

/-- FLOOR with action CLOSE (R96). -/
def execFloorClose (tag : Byte) (rest : List Byte) (s : State) : Answer :=
  .next (s.submit ⟨0x10, tag, 2 :: rest⟩)

/-- FLOOR with action CANCEL (R96). -/
def execFloorCancel (tag : Byte) (rest : List Byte) (s : State) : Answer :=
  .next (s.submit ⟨0x10, tag, 3 :: rest⟩)

/-- FLOOR with action CLEAR_QUEUE (R96). -/
def execFloorClearQueue (tag : Byte) (rest : List Byte) (s : State) : Answer :=
  .next (s.submit ⟨0x10, tag, 4 :: rest⟩)

/-- FLOOR with action CLOSE_ALL (R96). -/
def execFloorCloseAll (tag : Byte) (rest : List Byte) (s : State) : Answer :=
  .next (s.submit ⟨0x10, tag, 5 :: rest⟩)

/-- QUEUE_QUERY (R97). -/
def execQueueQuery (tag : Byte) (payload : List Byte) (s : State) : Answer :=
  .next (s.submit ⟨0x11, tag, payload⟩)

/-- BOOTH_SET (R124, R125). -/
def execBoothSet (tag : Byte) (payload : List Byte) (s : State) : Answer :=
  .next (s.submit ⟨0x12, tag, payload⟩)

/-- BOOTH_QUERY (R129). -/
def execBoothQuery (tag : Byte) (payload : List Byte) (s : State) : Answer :=
  .next (s.submit ⟨0x13, tag, payload⟩)

/-- CHANNEL_SET (R126). -/
def execChannelSet (tag : Byte) (payload : List Byte) (s : State) : Answer :=
  .next (s.submit ⟨0x14, tag, payload⟩)

/-- ANNOUNCE (R167, R168). -/
def execAnnounce (tag : Byte) (payload : List Byte) (s : State) : Answer :=
  .next (s.submit ⟨0x15, tag, payload⟩)

/-- SPUR_QUERY (R15). -/
def execSpurQuery (tag : Byte) (payload : List Byte) (s : State) : Answer :=
  .next (s.submit ⟨0x17, tag, payload⟩)

end Sys2Proof.Machine
end

