-- ==== Sys2Proof/Machine/Dispatch.lean ====
section
/-! DEFINITION. The command's meaning, one arm for each constructor of Instr. -/

namespace Sys2Proof.Machine

def exec (i : Instr) (s : State) : Host.Outcome State Fault Refusal :=
  match i with
  | .powerOn => Sys2Proof.Machine.execPowerOn s
  | .framePeriodStart levels => Sys2Proof.Machine.execFramePeriodStart levels s
  | .epochBoundary => Sys2Proof.Machine.execEpochBoundary s
  | .trunkFrameReceive rx => Sys2Proof.Machine.execTrunkFrameReceive rx s
  | .trunkLinkDown => Sys2Proof.Machine.execTrunkLinkDown s
  | .trunkLinkUp => Sys2Proof.Machine.execTrunkLinkUp s
  | .spurFrameReceive spur rx => Sys2Proof.Machine.execSpurFrameReceive spur rx s
  | .spurLinkDown spur => Sys2Proof.Machine.execSpurLinkDown spur s
  | .spurLinkUp spur => Sys2Proof.Machine.execSpurLinkUp spur s
  | .join spur uid arg0 arg1 => Sys2Proof.Machine.execJoin spur uid arg0 arg1 s
  | .press spur addr uid => Sys2Proof.Machine.execPress spur addr uid s
  | .release spur addr uid => Sys2Proof.Machine.execRelease spur addr uid s
  | .cancel spur addr uid => Sys2Proof.Machine.execCancel spur addr uid s
  | .next spur addr uid => Sys2Proof.Machine.execNext spur addr uid s
  | .priorityPress spur addr uid => Sys2Proof.Machine.execPriorityPress spur addr uid s
  | .priorityRelease spur addr uid => Sys2Proof.Machine.execPriorityRelease spur addr uid s
  | .consoleOn spur addr uid arg0 => Sys2Proof.Machine.execConsoleOn spur addr uid arg0 s
  | .consoleOff spur addr uid => Sys2Proof.Machine.execConsoleOff spur addr uid s
  | .select spur addr uid arg0 => Sys2Proof.Machine.execSelect spur addr uid arg0 s
  | .pollTimerFire spur => Sys2Proof.Machine.execPollTimerFire spur s
  | .lostHoldExpiry addr => Sys2Proof.Machine.execLostHoldExpiry addr s
  | .debouncedChange line => Sys2Proof.Machine.execDebouncedChange line s
  | .lineReRead line => Sys2Proof.Machine.execLineReRead line s
  | .fadeOutEnd => Sys2Proof.Machine.execFadeOutEnd s
  | .fadeInEnd => Sys2Proof.Machine.execFadeInEnd s
  | .frameComputation => Sys2Proof.Machine.execFrameComputation s
  | .warningPeriodStart addr => Sys2Proof.Machine.execWarningPeriodStart addr s
  | .speakLimitClose addr => Sys2Proof.Machine.execSpeakLimitClose addr s
  | .silenceClose addr => Sys2Proof.Machine.execSilenceClose addr s
  | .laneByte byte => Sys2Proof.Machine.execLaneByte byte s
  | .frameTimeout => Sys2Proof.Machine.execFrameTimeout s
  | .directiveExecution => Sys2Proof.Machine.execDirectiveExecution s
  | .unknownDirective kind tag payload => Sys2Proof.Machine.execUnknownDirective kind tag payload s
  | .partQuery tag payload => Sys2Proof.Machine.execPartQuery tag payload s
  | .warmRestart tag payload => Sys2Proof.Machine.execWarmRestart tag payload s
  | .setTiming tag payload => Sys2Proof.Machine.execSetTiming tag payload s
  | .bindSeat tag payload => Sys2Proof.Machine.execBindSeat tag payload s
  | .unbindSeat tag payload => Sys2Proof.Machine.execUnbindSeat tag payload s
  | .stationSet tag payload => Sys2Proof.Machine.execStationSet tag payload s
  | .stationQuery tag payload => Sys2Proof.Machine.execStationQuery tag payload s
  | .sectionSet tag payload => Sys2Proof.Machine.execSectionSet tag payload s
  | .wallSet tag payload => Sys2Proof.Machine.execWallSet tag payload s
  | .wallQuery tag payload => Sys2Proof.Machine.execWallQuery tag payload s
  | .lineSet tag payload => Sys2Proof.Machine.execLineSet tag payload s
  | .profileSet tag payload => Sys2Proof.Machine.execProfileSet tag payload s
  | .profileClear tag payload => Sys2Proof.Machine.execProfileClear tag payload s
  | .roomSet tag payload => Sys2Proof.Machine.execRoomSet tag payload s
  | .roomQuery tag payload => Sys2Proof.Machine.execRoomQuery tag payload s
  | .mapQuery tag payload => Sys2Proof.Machine.execMapQuery tag payload s
  | .floorGrantHead tag rest => Sys2Proof.Machine.execFloorGrantHead tag rest s
  | .floorGrant tag rest => Sys2Proof.Machine.execFloorGrant tag rest s
  | .floorClose tag rest => Sys2Proof.Machine.execFloorClose tag rest s
  | .floorCancel tag rest => Sys2Proof.Machine.execFloorCancel tag rest s
  | .floorClearQueue tag rest => Sys2Proof.Machine.execFloorClearQueue tag rest s
  | .floorCloseAll tag rest => Sys2Proof.Machine.execFloorCloseAll tag rest s
  | .queueQuery tag payload => Sys2Proof.Machine.execQueueQuery tag payload s
  | .boothSet tag payload => Sys2Proof.Machine.execBoothSet tag payload s
  | .boothQuery tag payload => Sys2Proof.Machine.execBoothQuery tag payload s
  | .channelSet tag payload => Sys2Proof.Machine.execChannelSet tag payload s
  | .announce tag payload => Sys2Proof.Machine.execAnnounce tag payload s
  | .spurQuery tag payload => Sys2Proof.Machine.execSpurQuery tag payload s

end Sys2Proof.Machine
end

