-- ==== Sys2Proof/Machine/Step.lean ====
section
/-! DEFINITION. One step of the part: the command at the front of the queue, or, when none waits, the step that is due.
DESIGN CHOICE (log 1). -/

namespace Sys2Proof.Machine

/-- One step. With an empty queue the part takes the step that is due, and idles when none is. -/
def step (s : State) : Host.Outcome State Fault Refusal :=
  match s.pending with
  | c :: rest => exec c { s with pending := rest }
  | [] =>
    match s.dueStep with
    | some c => exec c s
    | none => .next s

/-- The state with the command that a word of the table spells at the front of its queue. The table gives no row any
bits, so no word spells a command and the state is as it was (log 11). -/
def State.withFetchWord (s : State) (_nbits _w : Nat) : State := s

end Sys2Proof.Machine
end

