-- ==== Sys2Proof/Machine/Stations.lean ====
section
/-! DEFINITION. The stations' side of a spur, as far as the part depends on it (R9, R24). No command runs these
definitions: stations are outside the part, and what they drive reaches it as the bytes of SPUR_FRAME_RECEIVE. They
say which bytes those are (R9), and what a station makes of a command (R24). -/

namespace Sys2Proof.Machine

/-- A station that has an event pending, or, without an address, a JOIN (R9). -/
structure Contender where
  addr : Option Addr
  uid : Uid
  kind : Byte
  arg0 : Byte
  arg1 : Byte
  deriving DecidableEq, Repr

/-- The contention value (R9): the address, or 255 without one. -/
def Contender.value (c : Contender) : Nat := (c.addr.map fun a => a.val + 1).getD 255

/-- Who may contend under a threshold F (R9). -/
def Contender.eligible (threshold : Nat) (c : Contender) : Bool := threshold ≤ c.value

/-- The lower pair of contention value and uid (R9). -/
def Contender.beats (x y : Contender) : Bool :=
  x.value < y.value || (x.value == y.value && x.uid.toNat < y.uid.toNat)

/-- The winner among contenders (R9). -/
def lowestContender : List Contender → Option Contender
  | [] => none
  | c :: cs =>
    match lowestContender cs with
    | some d => if d.beats c then some d else some c
    | none => some c

/-- The winner of an event window under a threshold (R9). -/
def windowWinner (threshold : Nat) (cs : List Contender) : Option Contender :=
  lowestContender (cs.filter (Contender.eligible threshold))

/-- The eleven bytes of an event window (11.3): a window in which no station drives reads 0xFF throughout. -/
def Contender.window : Option Contender → List Byte
  | none => List.replicate 11 0xFF
  | some c => [0] ++ u8 c.value ++ uidBytes c.uid ++ [c.kind, c.arg0, c.arg1]

/-- What a station holds of what it has been told (R24). -/
structure StationSide where
  uid : Uid
  addr : Option Addr
  talk : Option SlotIx
  tune : Option SlotIx × Bool
  lamp : Lamp
  joining : Bool
  deriving DecidableEq, Repr

/-- What a station makes of a command on its chain (R24), and whether it replies in the next upstream frame. -/
def StationSide.hears (x : StationSide) (c : Command) : StationSide × Bool :=
  match c with
  | .resync => ({ x with addr := none, talk := none, tune := (none, false), joining := true }, false)
  | .to a (.assign u) => if u = x.uid then ({ x with addr := some a, joining := false }, true) else (x, false)
  | .to a (.talk k) => if x.addr = some a then ({ x with talk := k }, true) else (x, false)
  | .to a (.tune k d) => if x.addr = some a then ({ x with tune := (k, d) }, true) else (x, false)
  | .to a (.lamp l) => if x.addr = some a then ({ x with lamp := l }, true) else (x, false)
  | .to a .poll => (x, x.addr == some a)

end Sys2Proof.Machine
end

