-- ==== Sys2Proof/Safety.lean ====
section
/-! DEFINITION. What counts as a safe run, and the terms the claims are stated in. The part has no fault and refuses
nothing, so a run is safe while its state keeps within the sizes of R189 and the ranges of its fields
(`State.inBounds`), its talk slots and requests agree with its records (`State.slotsAgree`), no room has more open
microphones than its record allows (`State.withinMaxOpen`), no room distributes a language twice (`State.oneVoice`),
and no console takes part in floor control (`State.consolesOff`). -/

namespace Sys2Proof.Machine

/-! ## Ranges -/

/-- A sample in its range (00, section 4.6; R153). -/
def sampleInRange (x : Sample) : Prop := -8388608 ≤ x ∧ x ≤ 8388607

/-- A link's runs within their ranges (R4, R12). -/
def Link.inBounds (l : Link) : Prop := l.failRun ≤ Config.failLimit ∧ l.goodRun ≤ Config.goodLimit

/-- The lane's queues within their sizes, its counts within their ranges, and no entry reserved between commands (R178,
R179, R182, R186). -/
def LaneUnit.inBounds (l : LaneUnit) : Prop :=
  l.reports.length ≤ Config.reportQueueSize ∧ l.directives.length ≤ Config.directiveQueueSize ∧
    l.stray ≤ Config.countMax ∧ l.reserved = false

/-- A spur's link, threshold F, bad count and station command queue within their ranges (R10, R12, R15, R26). -/
def Spur.inBounds (p : Spur) : Prop :=
  p.link.inBounds ∧ p.threshold ≤ 193 ∧ p.badCount ≤ Config.countMax ∧ p.queue.length ≤ Config.commandQueueSize

/-- The request pool within its size (R78), and nothing left over for an advance pass between events (R90). -/
def FloorUnit.inBounds (f : FloorUnit) : Prop := f.pool.length ≤ Config.poolSize ∧ f.freed = [] ∧ f.named = []

/-- Applied codes, clip counts and samples within their ranges (R149, R153, R154). -/
def MixUnit.inBounds (m : MixUnit) : Prop :=
  (∀ r, m.applied.get r ≤ 255 ∧ m.clip.get r ≤ Config.countMax ∧ sampleInRange (m.floors.get r)) ∧
    (∀ l, sampleInRange (m.channels.get l)) ∧ ∀ b, sampleInRange (m.feeds.get b)

/-- A state within the sizes and ranges of the part. SWAP is never a state between two commands (R69). -/
def State.inBounds (s : State) : Prop :=
  s.trunk.link.inBounds ∧ (∀ p, (s.spur p).inBounds) ∧ s.floor.inBounds ∧ s.mix.inBounds ∧ s.lane.inBounds ∧
    s.map.phase ≠ .swap

/-! ## Tables that agree -/

/-- The talk-slot tables agree with the records (R77): a slot names the one station of its spur that holds it. -/
def State.slotTable (s : State) : Prop :=
  (∀ p k a, (s.spur p).talkSlots.get k = some a → (s.station a).talk = some k ∧ (s.station a).spur = p) ∧
    ∀ a k, (s.station a).talk = some k → (s.spur (s.station a).spur).talkSlots.get k = some a

/-- The request pool agrees with the records (R78): it holds exactly the QUEUED stations, each once. -/
def State.poolTable (s : State) : Prop :=
  (∀ a, (s.station a).mic = .queued ↔ ∃ e ∈ s.floor.pool, e.addr = a) ∧
    (s.floor.pool.map PoolEntry.addr).Nodup

/-- The talk slots and the request pool agree with the station records: the tables agree, a station that is not PRESENT
has neither, and a slot is held on the air only: by an ON_AIR station or a console standing on an output (R77, R78,
R102, R116). -/
def State.slotsAgree (s : State) : Prop :=
  s.slotTable ∧ s.poolTable ∧
    (∀ a, (s.station a).state ≠ .present → (s.station a).talk = none ∧ (s.station a).mic = .off) ∧
    ∀ a, (s.station a).talk ≠ none → (s.station a).mic = .onAir ∨ s.standsOn a ≠ none

/-- A CONSOLE record keeps mic state OFF, no grant stamp and no held press (R76, R83). -/
def State.consolesOff (s : State) : Prop :=
  ∀ a, (s.station a).kind = .console →
    (s.station a).mic = .off ∧ (s.station a).stamp = none ∧ (s.station a).held = false

/-- In every room the ON_AIR delegates other than its chair do not exceed its max open (R80). -/
def State.withinMaxOpen (s : State) : Prop := ∀ r, s.delegateCount r ≤ (s.room r).maxOpen

/-- No two channels of one room that are neither DARK nor parked carry the same code (R112). -/
def State.oneVoice (s : State) : Prop :=
  ∀ l m r, (s.channel l).state ≠ .dark → (s.channel m).state ≠ .dark → (s.channel l).parked = false →
    (s.channel m).parked = false → (s.channel l).room = some r → (s.channel m).room = some r →
    (s.channel l).code = (s.channel m).code → l = m

/-- The sections a map places are the enabled ones, in the live map and in the shadow map (R56, R58, R65). -/
def State.sectionsPlaced (s : State) : Prop :=
  (∀ i, (s.map.live.get i).isSome = s.sections.get i) ∧
    ∀ m, s.map.shadow = some m → ∀ i, (m.get i).isSome = s.sections.get i

/-- A map gives one room to any two sections that an effectively open wall joins. -/
def State.joins (s : State) (m : RoomMap) : Prop :=
  ∀ w i j, (s.wall w).secA = some i → (s.wall w).secB = some j → s.effOpen w = true → m.get i = m.get j

/-- Sections joined by an effectively open wall are together (R56): in the live map while the machine is STEADY, or
FADE_IN with the recompute flag clear, and in the shadow map while it is PENDING, or FADE_OUT with the flag clear. The
flag is set in the two fades only (R70). -/
def State.joinedTogether (s : State) : Prop :=
  match s.map.phase with
  | .steady => s.map.flag = false ∧ s.joins s.map.live
  | .pending => s.map.flag = false ∧ ∃ m, s.map.shadow = some m ∧ s.joins m
  | .fadeOut => ∃ m, s.map.shadow = some m ∧ (s.map.flag = false → s.joins m)
  | .swap => False
  | .fadeIn => s.map.flag = false → s.joins s.map.live

/-! ## Directives -/

/-- The directive a directive row stands for. -/
def directiveOf : Instr → Option Directive
  | .unknownDirective kind tag payload => some ⟨kind, tag, payload⟩
  | .partQuery tag payload => some ⟨0x01, tag, payload⟩
  | .warmRestart tag payload => some ⟨0x02, tag, payload⟩
  | .setTiming tag payload => some ⟨0x03, tag, payload⟩
  | .bindSeat tag payload => some ⟨0x04, tag, payload⟩
  | .unbindSeat tag payload => some ⟨0x05, tag, payload⟩
  | .stationSet tag payload => some ⟨0x06, tag, payload⟩
  | .stationQuery tag payload => some ⟨0x07, tag, payload⟩
  | .sectionSet tag payload => some ⟨0x08, tag, payload⟩
  | .wallSet tag payload => some ⟨0x09, tag, payload⟩
  | .wallQuery tag payload => some ⟨0x0A, tag, payload⟩
  | .lineSet tag payload => some ⟨0x0B, tag, payload⟩
  | .profileSet tag payload => some ⟨0x0C, tag, payload⟩
  | .profileClear tag payload => some ⟨0x0D, tag, payload⟩
  | .roomSet tag payload => some ⟨0x0E, tag, payload⟩
  | .roomQuery tag payload => some ⟨0x0F, tag, payload⟩
  | .mapQuery tag payload => some ⟨0x16, tag, payload⟩
  | .floorGrantHead tag rest => some ⟨0x10, tag, 0 :: rest⟩
  | .floorGrant tag rest => some ⟨0x10, tag, 1 :: rest⟩
  | .floorClose tag rest => some ⟨0x10, tag, 2 :: rest⟩
  | .floorCancel tag rest => some ⟨0x10, tag, 3 :: rest⟩
  | .floorClearQueue tag rest => some ⟨0x10, tag, 4 :: rest⟩
  | .floorCloseAll tag rest => some ⟨0x10, tag, 5 :: rest⟩
  | .queueQuery tag payload => some ⟨0x11, tag, payload⟩
  | .boothSet tag payload => some ⟨0x12, tag, payload⟩
  | .boothQuery tag payload => some ⟨0x13, tag, payload⟩
  | .channelSet tag payload => some ⟨0x14, tag, payload⟩
  | .announce tag payload => some ⟨0x15, tag, payload⟩
  | .spurQuery tag payload => some ⟨0x17, tag, payload⟩
  | .powerOn => none
  | .framePeriodStart _ => none
  | .epochBoundary => none
  | .trunkFrameReceive _ => none
  | .trunkLinkDown => none
  | .trunkLinkUp => none
  | .spurFrameReceive _ _ => none
  | .spurLinkDown _ => none
  | .spurLinkUp _ => none
  | .join _ _ _ _ => none
  | .press _ _ _ => none
  | .release _ _ _ => none
  | .cancel _ _ _ => none
  | .next _ _ _ => none
  | .priorityPress _ _ _ => none
  | .priorityRelease _ _ _ => none
  | .consoleOn _ _ _ _ => none
  | .consoleOff _ _ _ => none
  | .select _ _ _ _ => none
  | .pollTimerFire _ => none
  | .lostHoldExpiry _ => none
  | .debouncedChange _ => none
  | .lineReRead _ => none
  | .fadeOutEnd => none
  | .fadeInEnd => none
  | .frameComputation => none
  | .warningPeriodStart _ => none
  | .speakLimitClose _ => none
  | .silenceClose _ => none
  | .laneByte _ => none
  | .frameTimeout => none
  | .directiveExecution => none

/-- A directive handed to the part is executed at once (R182): none waits, none was discarded, and the report queue has
2 free entries. -/
def State.ready (s : State) : Prop :=
  s.lane.directives = [] ∧ s.lane.overrun = none ∧ s.lane.reports.length + 2 ≤ Config.reportQueueSize

/-- The state in which a directive is carried out (R182 step 1): it is the head of the queue, and its RESULT's entry is
reserved. -/
def State.executing (s : State) (d : Directive) : State :=
  { s with lane := { s.lane with directives := [d], reserved := true } }

/-- The state with a RESULT as its newest report (R182 step 4, R184), and everything else as it was. -/
def State.answered (s : State) (kind tag : Byte) (code : ResultCode) (data : ResultData) : State :=
  { s with lane := { s.lane with reports := s.lane.reports ++ [⟨.result kind tag code data, false⟩], reserved := false } }

/-- The reports of a state's queue, their marks apart. -/
def State.reportList (s : State) : List Report := s.lane.reports.map QueuedReport.report

/-- A report can be placed without being discarded (R186). -/
def State.hasReportRoom (s : State) : Prop := s.lane.reports.length < s.lane.reportRoom

/-! ## Frames -/

/-- What no floor, console or listening event writes. -/
def State.sameSettings (s t : State) : Prop :=
  t.pending = s.pending ∧ t.trunk = s.trunk ∧ t.bindings = s.bindings ∧ t.pollSpacing = s.pollSpacing ∧
    t.lostHold = s.lostHold ∧ t.lines = s.lines ∧ t.sections = s.sections ∧ t.walls = s.walls ∧
    t.override = s.override ∧ t.mix = s.mix

/-- The fields of a record that the registry owns, its listen code and lamp apart (R17). -/
def Station.sameIdentity (x y : Station) : Prop :=
  y.state = x.state ∧ y.uid = x.uid ∧ y.kind = x.kind ∧ y.key = x.key ∧ y.spur = x.spur ∧ y.sec = x.sec ∧
    y.declared = x.declared ∧ y.booth = x.booth ∧ y.trim = x.trim ∧ y.missed = x.missed ∧ y.holdLeft = x.holdLeft

/-- The floor controller's fields of a record, and its envelope (R76, R160). -/
def Station.sameFloor (x y : Station) : Prop :=
  y.mic = x.mic ∧ y.talk = x.talk ∧ y.stamp = x.stamp ∧ y.held = x.held ∧ y.seconds = x.seconds ∧
    y.subFrames = x.subFrames ∧ y.warning = x.warning ∧ y.silence = x.silence ∧ y.envelope = x.envelope

/-- The fields of a spur that its link, its windows and its poll timer own (Chapter 1, R30, R32). -/
def Spur.sameInterface (x y : Spur) : Prop :=
  y.link = x.link ∧ y.threshold = x.threshold ∧ y.badCount = x.badCount ∧ y.sent = x.sent ∧
    y.remembered = x.remembered ∧ y.retry = x.retry ∧ y.assign = x.assign ∧ y.pollRequest = x.pollRequest ∧
    y.pollTimer = x.pollTimer ∧ y.lastPolled = x.lastPolled ∧ y.talkIn = x.talkIn ∧ y.out = x.out

/-- Nothing of the lane but its report queue. -/
def State.sameLane (s t : State) : Prop := t.lane = { s.lane with reports := t.lane.reports }

/-- Nothing of the room map unit but the room records. -/
def State.sameMap (s t : State) : Prop := t.map = { s.map with rooms := t.map.rooms }

/-- An event of an addressed station is handed on to its block (R8, R23): the spur is UP, and the record is PRESENT
with the uid and the spur of the event. -/
def State.addressed (s : State) (p : SpurIx) (a : Addr) (uid : Uid) : Prop :=
  (s.spur p).link.up = true ∧ (s.station a).state = .present ∧ (s.station a).uid = uid ∧ (s.station a).spur = p

/-- Nothing is left over for an advance pass (R90). -/
def State.quiet (s : State) : Prop := s.floor.freed = [] ∧ s.floor.named = []

end Sys2Proof.Machine
end

