-- ==== Sys2Proof/WellFormed.lean ====
section
/-! DEFINITION. Which commands the outside can give: frames of their whole length (11.2, 11.3), payloads that a length
byte can give (R175), and an unknown directive of a kind that is not in the table of 11.5. -/

namespace Sys2Proof

/-- A frame found has the length of its layout. -/
def frameFits (size : Nat) (rx : Option (List Byte)) : Bool := rx.all fun bs => bs.length == size

/-- A payload that a length byte can give (R175). -/
def payloadFits (payload : List Byte) : Bool := payload.length ≤ Config.payloadMax

/-- The payload of a FLOOR directive after its action byte. -/
def restFits (rest : List Byte) : Bool := rest.length + 1 ≤ Config.payloadMax

/-- A directive kind of the table of 11.5. -/
def knownKind (kind : Byte) : Bool := 0x01 ≤ kind.toNat && kind.toNat ≤ 0x17

/-- A command that the outside can give. -/
def Instr.wellFormed : Instr → Bool
  | .powerOn => true
  | .framePeriodStart _ => true
  | .epochBoundary => true
  | .trunkFrameReceive rx => frameFits 21 rx
  | .trunkLinkDown => true
  | .trunkLinkUp => true
  | .spurFrameReceive _ rx => frameFits 66 rx
  | .spurLinkDown _ => true
  | .spurLinkUp _ => true
  | .join _ _ _ _ => true
  | .press _ _ _ => true
  | .release _ _ _ => true
  | .cancel _ _ _ => true
  | .next _ _ _ => true
  | .priorityPress _ _ _ => true
  | .priorityRelease _ _ _ => true
  | .consoleOn _ _ _ _ => true
  | .consoleOff _ _ _ => true
  | .select _ _ _ _ => true
  | .pollTimerFire _ => true
  | .lostHoldExpiry _ => true
  | .debouncedChange _ => true
  | .lineReRead _ => true
  | .fadeOutEnd => true
  | .fadeInEnd => true
  | .frameComputation => true
  | .warningPeriodStart _ => true
  | .speakLimitClose _ => true
  | .silenceClose _ => true
  | .laneByte _ => true
  | .frameTimeout => true
  | .directiveExecution => true
  | .unknownDirective kind _ payload => payloadFits payload && !knownKind kind
  | .partQuery _ payload => payloadFits payload
  | .warmRestart _ payload => payloadFits payload
  | .setTiming _ payload => payloadFits payload
  | .bindSeat _ payload => payloadFits payload
  | .unbindSeat _ payload => payloadFits payload
  | .stationSet _ payload => payloadFits payload
  | .stationQuery _ payload => payloadFits payload
  | .sectionSet _ payload => payloadFits payload
  | .wallSet _ payload => payloadFits payload
  | .wallQuery _ payload => payloadFits payload
  | .lineSet _ payload => payloadFits payload
  | .profileSet _ payload => payloadFits payload
  | .profileClear _ payload => payloadFits payload
  | .roomSet _ payload => payloadFits payload
  | .roomQuery _ payload => payloadFits payload
  | .mapQuery _ payload => payloadFits payload
  | .floorGrantHead _ rest => restFits rest
  | .floorGrant _ rest => restFits rest
  | .floorClose _ rest => restFits rest
  | .floorCancel _ rest => restFits rest
  | .floorClearQueue _ rest => restFits rest
  | .floorCloseAll _ rest => restFits rest
  | .queueQuery _ payload => payloadFits payload
  | .boothSet _ payload => payloadFits payload
  | .boothQuery _ payload => payloadFits payload
  | .channelSet _ payload => payloadFits payload
  | .announce _ payload => payloadFits payload
  | .spurQuery _ payload => payloadFits payload

end Sys2Proof
end

