-- ==== Sys2Proof/Certificates/Slice0/Obligations.lean ====
section
/-! DEFINITION. The statements for the provers. Each docstring says which rule of spec/ the statement formalises. -/

open Sys2Proof Sys2Proof.Machine

/-! ## The queue of commands, reset, and the invariants of a run -/

/-- Whole and indivisible (95_what_each_step_holds.md): a step takes the command at the front of the queue, with the
queue's rest. With an empty queue the part takes the step that is due, and idles when none is: the second clause is the
model's choice (log 1). -/
def Obligations.StepTakesTheFrontCommand : Prop :=
  (∀ (c : Instr) (rest : List Instr) (s : State),
    s.pending = c :: rest → step s = exec c { s with pending := rest }) ∧
  ∀ s : State, s.pending = [] →
    (∀ c, s.dueStep = some c → step s = exec c s) ∧ (s.dueStep = none → step s = .next s)

/-- POWER_ON (00, section 4.8): every block holds its power-on values (R2, R4, R10, R12, R15, R40, R42, R48, R49, R56,
R57, R60, R65, R67, R107 to R109, R144, R163, R174, R191). That the queue of commands is kept is the model's choice
(log 39). -/
def Obligations.PowerOnHoldsTheStatedValues : Prop :=
  ∀ s : State, ∃ t, exec .powerOn s = .next t ∧ t.pending = s.pending ∧
    (t.trunk.link = ⟨false, 0, 0⟩ ∧ t.trunk.clock = .localOsc ∧ t.trunk.epoch = 0) ∧
    (∀ p, (t.spur p).link = ⟨false, 0, 0⟩ ∧ (t.spur p).threshold = 0 ∧ (t.spur p).badCount = 0 ∧
      (t.spur p).queue = [] ∧ (t.spur p).hold = none ∧ (t.spur p).marks = [] ∧ (t.spur p).retry = [] ∧
      (t.spur p).assign = [] ∧ (t.spur p).pollRequest = none ∧ (t.spur p).pollTimer = 0 ∧
      (t.spur p).lastPolled = none ∧ (∀ k, (t.spur p).talkSlots.get k = none) ∧
      (∀ k, (t.spur p).listenSlots.get k = none) ∧ (t.spur p).unserved = []) ∧
    ((∀ a, (t.station a).state = .empty) ∧ t.bindings = [] ∧ t.pollSpacing = 480 ∧ t.lostHold = 60) ∧
    (∀ l, (t.line l).fn = .unused ∧ (t.line l).polarity = .activeLow ∧ (t.line l).debounce = 50 ∧
      (t.line l).count = 0 ∧ (t.line l).debounced = false ∧ (t.line l).reread = false) ∧
    (∀ i, t.sections.get i = true) ∧
    (∀ w, t.wall w = ⟨false, none, none, none, .auto, false, false⟩) ∧
    (∀ i, t.map.live.get i = some i) ∧
    (t.map.phase = .steady ∧ t.map.shadow = none ∧ t.map.flag = false ∧ t.map.settle = 2) ∧
    (∀ r, t.room r = ⟨.openFloor, 4, true, 0, 0, 50, 200, none, 200, 0, .fixed, none, .mute⟩) ∧
    (∀ e, t.map.profiles.get e = none) ∧
    (t.floor.pool = [] ∧ t.floor.requestStamp = 0 ∧ t.floor.grantStamp = 0 ∧ ∀ r, t.floor.priority.get r = false) ∧
    (∀ b, t.booth b = ⟨none, [], none, none, .lockout, none, none, none, false, .nothing, false⟩) ∧
    (∀ l, t.channel l = ⟨0, none, .dark, false⟩) ∧
    (∀ r, t.mix.applied.get r = 0 ∧ t.mix.clip.get r = 0) ∧
    (t.override.source = false ∧ t.override.code = 200) ∧
    (t.lane.assembly.state = .waitStart ∧ t.lane.assembly.payload = [] ∧ t.lane.assembly.gap = 0 ∧
      t.lane.directives = [] ∧ t.lane.overrun = none ∧ t.lane.reports = [] ∧ t.lane.reserved = false ∧
      t.lane.sent = 0 ∧ t.lane.stray = 0)

/-- The state after power-on meets the invariants of the next six statements. -/
def Obligations.PowerOnStateMeetsTheInvariants : Prop :=
  State.reset.inBounds ∧ State.reset.slotsAgree ∧ State.reset.withinMaxOpen ∧ State.reset.oneVoice ∧
    State.reset.sectionsPlaced ∧ State.reset.joinedTogether ∧ State.reset.consolesOff

/-- Every step keeps the sizes and ranges of the part (R4, R10, R12, R15, R26, R78, R149, R153, R154, R179, R186). -/
def Obligations.StepKeepsTheSizesAndRanges : Prop :=
  ∀ s t : State, s.inBounds → step s = .next t → t.inBounds

/-- Every step keeps the talk slots and the request pool in agreement with the station records (R77, R78), and every
CONSOLE record OFF, without a grant stamp or a held press (R76). -/
def Obligations.StepKeepsSlotsAndRequestsInAgreement : Prop :=
  (∀ s t : State, s.slotsAgree → step s = .next t → t.slotsAgree) ∧
  ∀ s t : State, s.slotsAgree → s.consolesOff → step s = .next t → t.consolesOff

/-- In every room, the ON_AIR delegates other than the room's chair never exceed the room's max open (R80). -/
def Obligations.StepKeepsOpenMicrophonesWithinMaxOpen : Prop :=
  ∀ s t : State, s.slotsAgree → s.withinMaxOpen → step s = .next t → t.withinMaxOpen

/-- Within one room, no two unparked, non-DARK language channels ever have the same language code (R112). -/
def Obligations.StepKeepsOneVoicePerLanguage : Prop :=
  ∀ s t : State, s.oneVoice → step s = .next t → t.oneVoice

/-- Every enabled section belongs to exactly one room of the live map, and every disabled section to none (R56); a
shadow map places the same sections (R58, R65). -/
def Obligations.StepKeepsEnabledSectionsPlaced : Prop :=
  ∀ s t : State, s.sectionsPlaced → step s = .next t → t.sectionsPlaced

/-- When the changeover machine is STEADY and its recompute flag is clear, two sections joined by an effectively open
wall belong to the same room (R56), whatever the walls, lines and directives have done before. -/
def Obligations.StepKeepsJoinedSectionsTogether : Prop :=
  ∀ s t : State, s.sectionsPlaced → s.joinedTogether → step s = .next t → t.joinedTogether

/-! ## Encodings -/

/-- The payload forms of section 11.5 lose nothing: a payload written from an order is read back as that order, every
field at every value its encoding admits (R194). A BIND_SEAT that carries booth and console bytes of none is read so by
the model's choice (log 30). -/
def Obligations.WrittenPayloadsAreReadBack : Prop :=
  ∀ o : Order, o.carried = true → examine o.kind o.payload = .order o

/-- Every frame the part sends has a correct start word and check (R192), in the layouts of sections 11.2 and 11.3, and
carries its samples, lane bytes and threshold where those layouts put them; the argument count of every command window,
an empty one too, lies from 0 to 6, and the argument bytes from it on are 0. -/
def Obligations.SentFramesPassTheLinkCheck : Prop :=
  (∀ f : TrunkOut, f.bytes.length ≤ 4 → ∃ fields, classify 0x47B9 93 (some f.wire) = .good fields ∧
    (∀ r, sampleInRange (f.floors.get r) → (samplesOf 16 fields).get r = f.floors.get r) ∧
    (∀ l, sampleInRange (f.channels.get l) → (samplesOf 12 (fields.drop 48)).get l = f.channels.get l) ∧
    (fields.drop 84).take f.bytes.length = f.bytes ∧
    (∀ i, i < 4 → ((fields.drop 88).headD 0).getLsbD i = decide (i < f.bytes.length)) ∧
    ((fields.drop 88).headD 0).getLsbD 7 = f.ready) ∧
  ∀ f : SpurOut, ∃ fields, classify 0x5C3A 62 (some f.bytes) = .good fields ∧
    (∀ k, sampleInRange (f.listen.get k) → (samplesOf 16 fields).get k = f.listen.get k) ∧
    (fields.drop 48).take 9 = windowBytes f.window ∧ ((fields.drop 50).headD 0).toNat ≤ 6 ∧
    (∀ i, ((fields.drop 50).headD 0).toNat ≤ i → i < 6 → (fields.drop (51 + i)).headD 0 = 0) ∧
    (f.window = none → (fields.drop 48).headD 0 = 0) ∧
    (f.threshold ≤ 193 → ((fields.drop 57).headD 0).toNat = f.threshold)

/-- A report placed (R186) is appended while the queue holds fewer than 64 reports, or fewer than 63 beside the entry
reserved for a RESULT; otherwise it is discarded, and the newest report takes the mark, which it keeps if it has it. Each
report goes out as one report frame (R195, section 11.6): the start byte, the kind, the mark, the body length, the body,
and a check byte that makes the sum of every byte after the start byte 0 modulo 256. -/
def Obligations.ReportsAreQueuedAndFramed : Prop :=
  (∀ (l : LaneUnit) (r : Report),
    (l.reports.length < (if l.reserved then 63 else 64) →
      l.place r = { l with reports := l.reports ++ [⟨r, false⟩] }) ∧
    ((if l.reserved then 63 else 64) ≤ l.reports.length →
      ∃ q qs, l.reports = qs ++ [q] ∧ l.place r = { l with reports := qs ++ [{ q with lost := true }] })) ∧
  ∀ q : QueuedReport, ∃ check : Byte,
    q.bytes = [0x5A, BitVec.ofNat 8 q.report.code, if q.lost then 1 else 0,
      BitVec.ofNat 8 (q.report.body.length / 256), BitVec.ofNat 8 q.report.body.length] ++ q.report.body ++ [check] ∧
    (q.bytes.drop 1).foldl (· + ·) 0 = 0

/-! ## Trunk and spur links -/

/-- TRUNK_FRAME_RECEIVE (R3, R4, R6, R177, R192): the samples and lane bytes of a good frame while the trunk is UP,
zero samples and no byte otherwise; the runs of R4; and one more period on the gap count, up to 9, when no byte is
handed on inside a directive; outside one, and with a byte, the gap count stays. Nothing else changes. A change of
state that is due stops the runs (log 2). -/
def Obligations.TrunkFrameIsTakenAsClassified : Prop :=
  ∀ (s : State) (rx : Option (List Byte)), ∃ t, exec (.trunkFrameReceive rx) s = .next t ∧
    (∀ fields, classify 0x47B8 21 rx = .good fields → s.trunk.link.up = true →
      t.trunk.inject = samplesOf 4 fields ∧ t.handed = s.handed ++ (trunkLaneBytes fields).map .laneByte) ∧
    ((classify 0x47B8 21 rx).isGood = false ∨ s.trunk.link.up = false →
      (∀ i, t.trunk.inject.get i = 0) ∧ t.handed = s.handed) ∧
    t.lane.assembly.gap =
      (if s.lane.assembly.state = .waitStart ∨ t.handed ≠ s.handed then s.lane.assembly.gap
        else min (s.lane.assembly.gap + 1) 9) ∧
    (s.trunk.link.due = false → (classify 0x47B8 21 rx).isGood = true → s.trunk.link.up = true →
      t.trunk.link = { s.trunk.link with failRun := 0 }) ∧
    (s.trunk.link.due = false → (classify 0x47B8 21 rx).isGood = false → s.trunk.link.up = true →
      t.trunk.link = { s.trunk.link with failRun := s.trunk.link.failRun + 1 }) ∧
    (s.trunk.link.due = false → (classify 0x47B8 21 rx).isGood = true → s.trunk.link.up = false →
      t.trunk.link = { s.trunk.link with goodRun := s.trunk.link.goodRun + 1 }) ∧
    (s.trunk.link.due = false → (classify 0x47B8 21 rx).isGood = false → s.trunk.link.up = false →
      t.trunk.link = { s.trunk.link with goodRun := 0 }) ∧
    t = { s with
      trunk := { s.trunk with link := t.trunk.link, inject := t.trunk.inject }
      handed := t.handed
      lane := { s.lane with assembly := { s.lane.assembly with gap := t.lane.assembly.gap } } }

/-- TRUNK_LINK_DOWN and TRUNK_LINK_UP (R1, R4): at 48 bad periods the trunk goes DOWN and TRUNK_LOST is placed; at 480
good periods it comes UP and TRUNK_RESTORED is placed with the whole seconds spent DOWN. Both counts are set to 0, the
frame clock source follows, and nothing else changes. -/
def Obligations.TrunkLinkChangesState : Prop :=
  ∀ s : State,
    (s.trunk.link.up = true → 48 ≤ s.trunk.link.failRun →
      exec .trunkLinkDown s = .next { s with
        trunk := { s.trunk with link := ⟨false, 0, 0⟩, clock := .localOsc, downFrames := 0 }
        lane := s.lane.place (.lane .trunkLost) }) ∧
    (s.trunk.link.up = false → 480 ≤ s.trunk.link.goodRun →
      exec .trunkLinkUp s = .next { s with
        trunk := { s.trunk with link := ⟨true, 0, 0⟩, clock := .recovered }
        lane := s.lane.place (.lane (.trunkRestored (min (s.trunk.downFrames / 48000) 65535))) })

/-- SPUR_FRAME_RECEIVE (R8, R10 to R12, R15), whatever command went out two frames before: on a spur that is UP a good
frame gives its talk-slot samples, its threshold and its event, and a bad one zero samples, threshold 0 and no event; on a
spur that is DOWN the frame counts toward UP only. Each bad period is counted, and the other spurs' links, frames and
thresholds stay. With no outcome due, because no command or a
broadcast or an empty window went out, or the spur is DOWN, nothing else changes. The last clause is the table of R10:
an addressed event of address a sets the threshold one above a and hands on its event, a JOIN under contention value 255
sets 0 and is handed on, and every other window sets 0 and hands nothing on; an addressed window of a kind that section
11.4 does not list sets the threshold as the addressed ones do (log 36). -/
def Obligations.SpurFrameIsTakenAsClassified : Prop :=
  (∀ (s : State) (p : SpurIx) (rx : Option (List Byte)), ∃ t, exec (.spurFrameReceive p rx) s = .next t ∧
      (t.spur p).remembered = (if (s.spur p).link.up then none else (s.spur p).remembered) ∧
      (∀ fields, classify 0x5C3B 66 rx = .good fields →
        (t.spur p).badCount = (s.spur p).badCount ∧
        ((s.spur p).link.up = true →
          (t.spur p).talkIn = samplesOf 16 fields ∧ (t.spur p).threshold = (eventWindow p fields).1 ∧
          t.handed = s.handed ++ (eventWindow p fields).2.toList)) ∧
      ((classify 0x5C3B 66 rx).isGood = false →
        (t.spur p).badCount = min ((s.spur p).badCount + 1) 65535) ∧
      ((classify 0x5C3B 66 rx).isGood = false ∨ (s.spur p).link.up = false →
        (∀ k, (t.spur p).talkIn.get k = 0) ∧ (t.spur p).threshold = 0 ∧ t.handed = s.handed) ∧
      ((s.spur p).link.due = false →
        (t.spur p).link =
          match (s.spur p).link.up, (classify 0x5C3B 66 rx).isGood with
          | true, true => { (s.spur p).link with failRun := 0 }
          | true, false => { (s.spur p).link with failRun := (s.spur p).link.failRun + 1 }
          | false, true => { (s.spur p).link with goodRun := (s.spur p).link.goodRun + 1 }
          | false, false => { (s.spur p).link with goodRun := 0 }) ∧
      (∀ q, q ≠ p → (t.spur q).link = (s.spur q).link ∧ (t.spur q).talkIn = (s.spur q).talkIn ∧
        (t.spur q).threshold = (s.spur q).threshold ∧ (t.spur q).badCount = (s.spur q).badCount ∧
        (t.spur q).sent = (s.spur q).sent ∧ (t.spur q).remembered = (s.spur q).remembered ∧
        (t.spur q).out = (s.spur q).out) ∧
      ((∀ a b, (s.spur p).remembered ≠ some (.to a b)) ∨ (s.spur p).link.up = false →
        (∀ q, q ≠ p → t.spur q = s.spur q) ∧
        t.spur p = { s.spur p with
          link := (t.spur p).link, talkIn := (t.spur p).talkIn, badCount := (t.spur p).badCount,
          threshold := (t.spur p).threshold, remembered := (t.spur p).remembered } ∧
        t = { s with spurs := t.spurs, handed := t.handed })) ∧
  ∀ (p : SpurIx) (before : List Byte) (u : Uid) (k x y : Byte), before.length = 51 →
    let window := fun hi lo : Byte => eventWindow p (before ++ [hi, lo] ++ uidBytes u ++ [k, x, y])
    (∀ a : Addr, window 0 (BitVec.ofNat 8 (a.val + 1)) = (a.val + 2,
      if k = 0x11 then some (.press p a u) else if k = 0x12 then some (.release p a u)
      else if k = 0x13 then some (.cancel p a u) else if k = 0x14 then some (.next p a u)
      else if k = 0x15 then some (.priorityPress p a u) else if k = 0x16 then some (.priorityRelease p a u)
      else if k = 0x17 then some (.consoleOn p a u x) else if k = 0x18 then some (.consoleOff p a u)
      else if k = 0x19 then some (.select p a u x) else none)) ∧
    window 0 255 = (0, if k = 0x10 then some (.join p u x y) else none) ∧
    ∀ hi lo : Byte, hi ≠ 0 ∨ lo = 0 ∨ (193 ≤ lo.toNat ∧ lo.toNat ≤ 254) → window hi lo = (0, none)

/-- The outcome of a TALK, TUNE, LAMP or POLL (R11, R31), taken with the upstream frame that gives it: a reply clears
the missed-reply count, a first and second miss count and append the command to the retry list, and a third makes the
station lost with cause NO_REPLY. The outcome of an ASSIGN (R22): a reply makes the record PRESENT with JOINED placed
first, a first and second miss count and make its entry due again in its place, a third makes the record EMPTY with
JOIN_FAILED, and an outcome for a record that is not JOINING with that uid is ignored. That an outcome counts by the
record as it stands, although its command was sent before the station was lost and joined again, is the model's choice
(log 62). -/
def Obligations.MissedRepliesAreCounted : Prop :=
  (∀ (s : State) (p : SpurIx) (rx : Option (List Byte)) (a : Addr) (b : CommandBody),
    (s.spur p).link.up = true → (s.spur p).remembered = some (.to a b) → (∀ u, b ≠ .assign u) →
    (s.station a).state = .present →
    ∃ t, exec (.spurFrameReceive p rx) s = .next t ∧ (t.spur p).remembered = none ∧
      (∀ fields, classify 0x5C3B 66 rx = .good fields → (spurReply fields).toNat = a.val + 1 →
        t.station a = { s.station a with missed := 0 } ∧ (t.spur p).retry = (s.spur p).retry) ∧
      ((∀ fields, classify 0x5C3B 66 rx = .good fields → (spurReply fields).toNat ≠ a.val + 1) →
        ((s.station a).missed < 2 →
          t.station a = { s.station a with missed := (s.station a).missed + 1 } ∧
            (t.spur p).retry = (s.spur p).retry ++ [.to a b] ∧ t.lane = s.lane) ∧
        (2 ≤ (s.station a).missed →
          (t.station a).state = .lost ∧ (t.station a).holdLeft = s.lostHold * 48000 ∧ (t.station a).missed = 0 ∧
            (s.hasReportRoom →
              .station (.lost a (s.station a).uid (s.station a).spur .noReply) ∈ t.reportList)))) ∧
  ∀ (s : State) (p : SpurIx) (rx : Option (List Byte)) (a : Addr) (u : Uid),
    (s.spur p).link.up = true → (s.spur p).remembered = some (.to a (.assign u)) →
    ∃ t, exec (.spurFrameReceive p rx) s = .next t ∧ (t.spur p).remembered = none ∧
      ((s.station a).state = .joining → (s.station a).uid = u → (s.station a).spur = p →
        (∀ fields, classify 0x5C3B 66 rx = .good fields → (spurReply fields).toNat = a.val + 1 →
          t.station a = { s.station a with
            state := .present, missed := 0, resolved := (t.station a).resolved,
            listenSlot := (t.station a).listenSlot, degraded := (t.station a).degraded } ∧
          (∀ b, b ≠ a → (s.station b).sameIdentity (t.station b)) ∧
          (t.spur p).assign = (s.spur p).assign.filter (fun e => e.addr != a) ∧
          (s.hasReportRoom → ∃ rs, t.reportList = s.reportList ++
            .station (.joined a u (s.station a).kind p (s.station a).sec) :: rs)) ∧
        ((∀ fields, classify 0x5C3B 66 rx = .good fields → (spurReply fields).toNat ≠ a.val + 1) →
          (∀ b, b ≠ a → t.station b = s.station b) ∧
          ((s.station a).missed < 2 →
            t.station a = { s.station a with missed := (s.station a).missed + 1 } ∧
            (t.spur p).assign = ((s.spur p).assign.map fun e =>
              if e.addr = a then { e with awaiting := false } else e) ∧ t.lane = s.lane) ∧
          (2 ≤ (s.station a).missed →
            (t.station a).state = .empty ∧ (t.spur p).assign = (s.spur p).assign.filter (fun e => e.addr != a) ∧
            t.lane = s.lane.place (.station (.joinFailed u p))))) ∧
      ((s.station a).state ≠ .joining ∨ (s.station a).uid ≠ u →
        t.stations = s.stations ∧ t.lane = s.lane ∧ (t.spur p).assign = (s.spur p).assign)

/-- SPUR_LINK_UP (R12, R14): the queue and its overflow hold are cleared and hold one RESYNC, F is 0, SPUR_UP is placed,
and nothing else changes. -/
def Obligations.SpurLinkUpPlacesResync : Prop :=
  ∀ (s : State) (p : SpurIx), (s.spur p).link.up = false → 480 ≤ (s.spur p).link.goodRun →
    exec (.spurLinkUp p) s = .next { s with
      spurs := s.spurs.set p { s.spur p with
        link := ⟨true, 0, 0⟩, threshold := 0, queue := [.resync], hold := none, marks := [] }
      lane := s.lane.place (.station (.spurUp p)) }

/-- SPUR_LINK_DOWN (R13, R35): F is 0, the command out and the remembered one are dropped, every JOINING and PRESENT
station of the spur becomes LOST with a full hold and its stored settings (R34), the assign list, the retry list and
the poll request are empty, and SPUR_DOWN is placed first. The records of the other stations keep their registry
fields, and no link changes but this one. -/
def Obligations.SpurLinkDownLosesItsStations : Prop :=
  ∀ (s : State) (p : SpurIx), (s.spur p).link.up = true → 48 ≤ (s.spur p).link.failRun →
    ∃ t, exec (.spurLinkDown p) s = .next t ∧
      (t.spur p).link = ⟨false, 0, 0⟩ ∧ (t.spur p).threshold = 0 ∧ (t.spur p).sent = none ∧
      (t.spur p).remembered = none ∧ (t.spur p).assign = [] ∧ (t.spur p).retry = [] ∧
      (t.spur p).pollRequest = none ∧
      (∀ a, (s.station a).active = true → (s.station a).spur = p →
        (t.station a).state = .lost ∧ (t.station a).holdLeft = s.lostHold * 48000 ∧ (t.station a).missed = 0 ∧
          (t.station a).uid = (s.station a).uid ∧ (t.station a).kind = (s.station a).kind ∧
          (t.station a).key = (s.station a).key ∧ (t.station a).spur = (s.station a).spur ∧
          (t.station a).sec = (s.station a).sec ∧ (t.station a).declared = (s.station a).declared ∧
          (t.station a).booth = (s.station a).booth ∧ (t.station a).trim = (s.station a).trim ∧
          (t.station a).listen = (s.station a).listen ∧ (t.station a).held = false ∧
          (t.station a).resolved = none ∧ (t.station a).listenSlot = none) ∧
      (∀ a, ¬((s.station a).active = true ∧ (s.station a).spur = p) → (s.station a).sameIdentity (t.station a)) ∧
      (∀ q, q ≠ p → (t.spur q).link = (s.spur q).link ∧ (t.spur q).threshold = (s.spur q).threshold) ∧
      (s.hasReportRoom → ∃ rs, t.reportList = s.reportList ++ .station (.spurDown p) :: rs) ∧
      s.sameSettings t

/-- The lane bytes that are still to go out: those of the reports in order, less those of the oldest already sent
(R187). -/
def reportStream (l : LaneUnit) : List Byte := (l.reports.flatMap QueuedReport.bytes).drop l.sent

/-- FRAME_PERIOD_START when nothing is due (R5 to R7, R181, R187): while the trunk is UP the upstream frame carries the
floors and channels of the last computation, lane-ready, and the next four bytes of the reports; while it is DOWN,
silence and filler, and the lane keeps its reports. A spur that is UP sends in each listen slot the sample of the id the
slot holds, and its F; a spur that is DOWN sends silence, an empty window and F 0. That a slot given a new id since the
last computation carries that computation's sample of the new id is the model's choice (log 49). -/
def Obligations.FramePeriodSendsItsFrames : Prop :=
  ∀ (s : State) (levels : Tab 24 LineLevel), s.dueStep = none →
    ∃ t, exec (.framePeriodStart levels) s = .next t ∧
      (s.trunk.link.up = true →
        t.trunk.out.floors = s.mix.floors ∧ t.trunk.out.channels = s.mix.channels ∧
        t.trunk.out.ready = decide (s.lane.directives.length + 2 ≤ 8) ∧
        (s.lane.sent < (s.lane.reports.headD ⟨.lane .trunkLost, false⟩).bytes.length →
          t.trunk.out.bytes = (reportStream s.lane).take 4 ∧ reportStream t.lane = (reportStream s.lane).drop 4 ∧
            t.lane = { s.lane with reports := t.lane.reports, sent := t.lane.sent })) ∧
      (s.trunk.link.up = false →
        t.trunk.out = ⟨.fill 16 0, .fill 12 0, [], false⟩ ∧ t.lane = s.lane) ∧
      ∀ p,
        ((s.spur p).link.up = true →
          (t.spur p).out.threshold = (s.spur p).threshold ∧ (t.spur p).out.window = (t.spur p).sent ∧
          ∀ k, (t.spur p).out.listen.get k =
            match (s.spur p).listenSlots.get k with
            | some (.floor r, _) => s.mix.floors.get r
            | some (.channel l, _) => s.mix.channels.get l
            | some (.feed b, _) => s.mix.feeds.get b
            | none => 0) ∧
        ((s.spur p).link.up = false → (t.spur p).out = ⟨.fill 16 0, none, 0⟩ ∧ (t.spur p).queue = (s.spur p).queue)

/-- FRAME_PERIOD_START when nothing is due, in time: the epoch counter (R2), the poll timers (R32), the lost holds
(R36), the speaking time of the delegates (R98), the samples of the contact lines (R16, R43), and the frame periods that
the trunk has been DOWN (R4). A record that counts nothing keeps its counts, and the tables that count nothing are kept.
-/
def Obligations.FramePeriodCountsItsFrames : Prop :=
  ∀ (s : State) (levels : Tab 24 LineLevel), s.dueStep = none →
    ∃ t, exec (.framePeriodStart levels) s = .next t ∧ t.trunk.started = true ∧
      (s.trunk.started = true → t.trunk.epoch = (s.trunk.epoch + 1) % 1024 ∧
        t.trunk.epochDue = decide ((s.trunk.epoch + 1) % 1024 = 0)) ∧
      (s.trunk.started = false → t.trunk.epoch = s.trunk.epoch) ∧
      t.trunk.downFrames = (if s.trunk.link.up then s.trunk.downFrames else s.trunk.downFrames + 1) ∧
      (∀ p, (t.spur p).pollTimer = (s.spur p).pollTimer + 1 ∧ (t.spur p).link = (s.spur p).link ∧
        (t.spur p).remembered = if (s.spur p).link.up then (s.spur p).sent else none) ∧
      (∀ a, (s.station a).state = .lost → (t.station a).holdLeft = (s.station a).holdLeft - 1) ∧
      (∀ a r, (s.station a).mic = .onAir → s.stationRoom a = some r → s.isChair r a = false →
        ((s.station a).subFrames + 1 < 48000 →
          (t.station a).subFrames = (s.station a).subFrames + 1 ∧ (t.station a).seconds = (s.station a).seconds) ∧
        (48000 ≤ (s.station a).subFrames + 1 →
          (t.station a).subFrames = 0 ∧ (t.station a).seconds = min ((s.station a).seconds + 1) 3600)) ∧
      (∀ a, (s.station a).state ≠ .lost → (t.station a).holdLeft = (s.station a).holdLeft) ∧
      (∀ a, (s.station a).mic ≠ .onAir ∨ s.stationRoom a = none ∨ (∃ r, s.isChair r a = true) →
        (t.station a).seconds = (s.station a).seconds ∧ (t.station a).subFrames = (s.station a).subFrames) ∧
      (∀ a, t.station a = { s.station a with
        holdLeft := (t.station a).holdLeft, seconds := (t.station a).seconds,
        subFrames := (t.station a).subFrames }) ∧
      (s.trunk.started = true → ∀ l,
        ((s.line l).lastRaw ≠ (t.line l).lastRaw → (t.line l).count = 1) ∧
        ((s.line l).lastRaw = (t.line l).lastRaw → (t.line l).count = min ((s.line l).count + 1) 12240)) ∧
      (∀ l,
        (levels.get l = .low → (t.line l).lastRaw = decide ((s.line l).polarity = .activeLow)) ∧
        (levels.get l = .high → (t.line l).lastRaw = decide ((s.line l).polarity = .activeHigh)) ∧
        (t.line l).changeDue = ((t.line l).lastRaw != (s.line l).debounced &&
          decide (48 * (s.line l).debounce.toNat ≤ (t.line l).count)) ∧
        (t.line l).rereadDue = ((s.line l).reread && decide (48 * (s.line l).debounce.toNat ≤ (t.line l).count)) ∧
        (t.line l).debounced = (s.line l).debounced ∧ (t.line l).fn = (s.line l).fn ∧
        (t.line l).polarity = (s.line l).polarity ∧ (t.line l).debounce = (s.line l).debounce) ∧
      t.bindings = s.bindings ∧ t.pollSpacing = s.pollSpacing ∧ t.lostHold = s.lostHold ∧ t.sections = s.sections ∧
      t.walls = s.walls ∧ t.map = s.map ∧ t.floor = s.floor ∧ t.booths = s.booths ∧ t.channels = s.channels ∧
      t.mix = s.mix ∧ t.override = s.override ∧ t.pending = s.pending ∧ t.handed = s.handed

/-- The command window of a spur that is UP (R22, R29, R30): the ASSIGN of the oldest due entry, which becomes awaiting in
its place while the list keeps its order and length, else the oldest retry, else
the head of the queue, whose entry is filled from the hold or from the first mark, else the poll request, else nothing. A
command waits for it as R25 to R28 have it: one offered for a station that is not PRESENT is dropped, and a LAMP offered
for a PRESENT one is written in its record; a waiting command of its kind and station takes its arguments; an open queue
with a free entry takes it at the tail; a full one gives up its newest LAMP for a mark, or else the command goes into the
overflow hold; and while the queue is not open it leaves a mark. -/
def Obligations.CommandWindowIsFilledInOrder : Prop :=
  (∀ (s : State) (levels : Tab 24 LineLevel) (p : SpurIx), s.dueStep = none → (s.spur p).link.up = true →
    ∃ t, exec (.framePeriodStart levels) s = .next t ∧
      (∀ e, (s.spur p).assign.find? (fun e => !e.awaiting) = some e →
        (t.spur p).sent = some (.to e.addr (.assign e.uid)) ∧ (t.spur p).retry = (s.spur p).retry ∧
          (t.spur p).queue = (s.spur p).queue ∧ (t.spur p).pollRequest = (s.spur p).pollRequest ∧
          (t.spur p).assign = (s.spur p).assign.map fun x => if x.addr = e.addr then { x with awaiting := true } else x) ∧
      ((s.spur p).assign.find? (fun e => !e.awaiting) = none →
        (t.spur p).assign = (s.spur p).assign ∧
        (∀ c cs, (s.spur p).retry = c :: cs →
          (t.spur p).sent = some c ∧ (t.spur p).retry = cs ∧ (t.spur p).queue = (s.spur p).queue ∧
            (t.spur p).pollRequest = (s.spur p).pollRequest) ∧
        ((s.spur p).retry = [] →
          (t.spur p).retry = [] ∧
          (∀ c cs, (s.spur p).queue = c :: cs →
            (t.spur p).sent = some c ∧ (t.spur p).pollRequest = (s.spur p).pollRequest ∧
            (∀ h, (s.spur p).hold = some h →
              (t.spur p).queue = cs ++ [h] ∧ (t.spur p).hold = none ∧ (t.spur p).marks = (s.spur p).marks) ∧
            ((s.spur p).hold = none → ∀ m ms, (s.spur p).marks = m :: ms →
              (t.spur p).queue = cs ++ [rebuildCommand s.stations m] ∧ (t.spur p).marks = ms) ∧
            ((s.spur p).hold = none → (s.spur p).marks = [] → (t.spur p).queue = cs)) ∧
          ((s.spur p).queue = [] →
            (∀ a, (s.spur p).pollRequest = some a →
              (t.spur p).sent = some (.to a .poll) ∧ (t.spur p).pollRequest = none) ∧
            ((s.spur p).pollRequest = none → (t.spur p).sent = none))))) ∧
  (∀ (s : State) (a : Addr) (b : CommandBody),
    ((s.station a).state ≠ .present → s.offer a b = s) ∧
    ((s.station a).state = .present → ∃ t, s.offer a b = t ∧
      t.station a = { s.station a with lamp := match b with | .lamp l => l | _ => (s.station a).lamp } ∧
      (∀ x, x ≠ a → t.station x = s.station x) ∧ t.spur (s.station a).spur = (s.spur (s.station a).spur).offer a b ∧
      (∀ q, q ≠ (s.station a).spur → t.spur q = s.spur q) ∧
      t = { s with stations := t.stations, spurs := t.spurs })) ∧
  ∀ (x : Spur) (a : Addr) (b : CommandBody) (k : MarkKind), b.markKind = some k →
    let waits := fun c => ∃ b', c = Command.to a b' ∧ b'.markKind = some k
    let y := x.offer a b
    ((∃ c ∈ x.queue, waits c) → y = { x with queue := y.queue } ∧ y.queue.length = x.queue.length ∧
      ∀ (i : Nat) c, x.queue[i]? = some c →
        (waits c → y.queue[i]? = some (.to a b)) ∧ (¬waits c → y.queue[i]? = some c)) ∧
    ((∀ c ∈ x.queue, ¬waits c) →
      (∀ h, x.hold = some h → waits h → y = { x with hold := some (.to a b) }) ∧
      (x.hold = none → x.marks = [] →
        (x.queue.length < 32 → y = { x with queue := x.queue ++ [.to a b] }) ∧
        (32 ≤ x.queue.length →
          (∀ older newer m l, x.queue = older ++ .to m (.lamp l) :: newer → (∀ c ∈ newer, ∀ n j, c ≠ .to n (.lamp j)) →
            y = { x with queue := older ++ newer ++ [.to a b], marks := [(m, .lamp)] }) ∧
          ((∀ c ∈ x.queue, ∀ n j, c ≠ .to n (.lamp j)) → y = { x with hold := some (.to a b) }))) ∧
      ((∃ h, x.hold = some h ∧ ¬waits h) ∨ (x.hold = none ∧ x.marks ≠ []) →
        y = { x with marks := y.marks } ∧ (∀ m, m ∈ y.marks ↔ m ∈ x.marks ∨ m = (a, k)) ∧
          (x.marks.Nodup → y.marks.Nodup)))

/-! ## The station registry -/

/-- The record of a station that has just entered JOINING, with the idle values of R18. -/
def joiningRecord (uid : Uid) (kind : Kind) (key : Bool) (p : SpurIx) (sec : Option SecIx) (declared : Option Lang)
    (booth : Option (BoothIx × ConsoleIx)) (trim : Byte) (listen : Lang) : Station where
  state := .joining
  uid := uid
  kind := kind
  key := key
  spur := p
  sec := sec
  declared := declared
  booth := booth
  trim := trim
  listen := listen
  lamp := .off
  missed := 0
  holdLeft := 0
  mic := .off
  talk := none
  stamp := none
  held := false
  seconds := 0
  subFrames := 0
  warning := false
  silence := 0
  resolved := none
  listenSlot := none
  degraded := false
  envelope := 0

/-- The state after a command c by which record a becomes a JOINING record x, with its ASSIGN at the tail of spur p's
assign list, and nothing else changes. -/
def joined (s : State) (c : Instr) (p : SpurIx) (a : Addr) (x : Station) : State :=
  { s with
    handed := s.handed.erase c
    stations := s.stations.set a x
    spurs := s.spurs.set p { s.spur p with
      assign := (s.spur p).assign ++ [{ addr := a, uid := x.uid, awaiting := false }] } }

/-- JOIN (R21, R17, R18, R193), with no record of its uid LOST. A uid that no record and no binding carries takes the
lowest EMPTY address that no binding names, with fresh values, and its ASSIGN joins the tail of the spur's assign
list; with no such address it is refused with JOIN_REFUSED, NO_ADDRESS. A bound uid takes the bound address, with
section, declared language and, for a CONSOLE, a booth and console that no other station has from the binding; where
that record holds a station it is refused with BINDING_CONFLICT. A uid that a JOINING or PRESENT record carries has
that record lost first, with cause REJOIN, and takes its own address again with its settings; that one joining again
as a DELEGATE then holds no booth and console (R17), although R21 step 3 keeps them, is the model's choice (log 10).
On a full spur a JOIN is refused with JOIN_REFUSED, SPUR_FULL. No refusal changes anything else. -/
def Obligations.JoinPlacesAFreshRecord : Prop :=
  ∀ (s : State) (p : SpurIx) (uid : Uid) (arg0 arg1 : Byte),
    (s.spur p).link.up = true → arg0 = 0 ∨ arg0 = 1 →
    let c := Instr.join p uid arg0 arg1
    let kind := if arg0 = 0 then Kind.delegate else Kind.console
    let key := decide (arg0 = 0 ∧ arg1 = 1)
    let refused := fun r => Host.Outcome.next { s with
      handed := s.handed.erase c, lane := s.lane.place (.station r) }
    ((∀ x, (s.station x).state ≠ .empty → (s.station x).uid ≠ uid) →
      (48 ≤ s.stationsOn p → exec c s = refused (.joinRefused .spurFull (some (uid, p)))) ∧
      (s.stationsOn p < 48 → (∀ b ∈ s.bindings, b.uid ≠ uid) →
        (∀ a, (s.station a).state = .empty → (∀ b ∈ s.bindings, b.addr ≠ a) →
          (∀ x, x < a → (s.station x).state ≠ .empty ∨ ∃ b ∈ s.bindings, b.addr = x) →
          exec c s = .next (joined s c p a (joiningRecord uid kind key p none none none 200 0))) ∧
        ((∀ x, (s.station x).state ≠ .empty ∨ ∃ b ∈ s.bindings, b.addr = x) →
          exec c s = refused (.joinRefused .noAddress none))) ∧
      (s.stationsOn p < 48 → ∀ b ∈ s.bindings, b.uid = uid → (∀ b' ∈ s.bindings, b'.uid = uid → b' = b) →
        ((s.station b.addr).state = .empty →
          exec c s = .next (joined s c p b.addr (joiningRecord uid kind key p b.sec b.declared
            (if arg0 = 1 ∧ (∀ x, x ≠ b.addr → (s.station x).state ≠ .empty → (s.station x).booth ≠ b.booth)
              then b.booth else none) 200 0))) ∧
        ((s.station b.addr).state ≠ .empty → exec c s = refused (.bindingConflict uid p b.addr)))) ∧
    ∀ a, (s.station a).state = .joining ∨ (s.station a).state = .present → (s.station a).uid = uid →
      (∀ x, x ≠ a → (s.station x).state ≠ .empty → (s.station x).uid ≠ uid) →
      s.stationsOn p < (if (s.station a).spur = p then 49 else 48) →
      ∃ t, exec c s = .next t ∧
        t.station a = joiningRecord uid kind key p (s.station a).sec (s.station a).declared
          (if arg0 = 0 then none else (s.station a).booth) (s.station a).trim (s.station a).listen ∧
        (t.spur p).assign = (s.spur p).assign.filter (fun e => (s.station a).spur != p || e.addr != a) ++
          [{ addr := a, uid := uid, awaiting := false }] ∧
        (∀ b, b ≠ a → (s.station b).sameIdentity (t.station b)) ∧ s.sameSettings t ∧ s.sameLane t ∧
        (s.hasReportRoom → ∃ rs, t.reportList = s.reportList ++
          .station (.lost a uid (s.station a).spur .rejoin) :: rs)

/-- JOIN from a station whose LOST record still stands (R21 step 3, R18): it becomes JOINING at its own address on the
spur of the JOIN, with kind and key of the JOIN, its settings kept and everything else idle; its ASSIGN joins the assign
list, and nothing else changes. A CONSOLE keeps its booth and console. That one returning as a DELEGATE holds none (R17)
although step 3 keeps them is the model's choice (log 10). -/
def Obligations.ReturningStationKeepsItsSettings : Prop :=
  ∀ (s : State) (p : SpurIx) (uid : Uid) (arg0 arg1 : Byte) (a : Addr),
    (s.spur p).link.up = true → arg0 = 0 ∨ arg0 = 1 → s.stationsOn p < 48 →
    (s.station a).state = .lost → (s.station a).uid = uid →
    (∀ x, x ≠ a → (s.station x).state ≠ .empty → (s.station x).uid ≠ uid) →
    exec (.join p uid arg0 arg1) s = .next { s with
      handed := s.handed.erase (.join p uid arg0 arg1)
      stations := s.stations.set a {
        state := .joining, uid := uid, kind := if arg0 = 0 then .delegate else .console,
        key := decide (arg0 = 0 ∧ arg1 = 1), spur := p, sec := (s.station a).sec,
        declared := (s.station a).declared, booth := if arg0 = 0 then none else (s.station a).booth,
        trim := (s.station a).trim, listen := (s.station a).listen, lamp := .off, missed := 0, holdLeft := 0,
        mic := .off, talk := none, stamp := none, held := false, seconds := 0, subFrames := 0, warning := false,
        silence := 0, resolved := none, listenSlot := none, degraded := false, envelope := 0 }
      spurs := s.spurs.set p { s.spur p with
        assign := (s.spur p).assign ++ [{ addr := a, uid := uid, awaiting := false }] } }

/-- The nine events of an addressed station, with an argument that R193 lets through. -/
def stationEvents (p : SpurIx) (a : Addr) (uid : Uid) : List Instr :=
  [.press p a uid, .release p a uid, .cancel p a uid, .next p a uid, .priorityPress p a uid,
   .priorityRelease p a uid, .consoleOn p a uid 0, .consoleOn p a uid 1, .consoleOff p a uid] ++
    (List.finRange 64).map fun c => .select p a uid (BitVec.ofNat 8 c.val)

/-- An event whose record is EMPTY, of another uid or on another spur is discarded with a STRAY report (R23); one from
a record of a kind, or with a priority key missing, that the table does not allow is discarded without a report (R23).
Neither changes anything else. An event from a JOINING record of its uid and spur first makes the record PRESENT, as a
replied ASSIGN does, and is then taken as from a PRESENT one; one from a LOST record of its uid is discarded, and the
station joins again at its own address (R21 step 3), a CONSOLE with its booth and console. A JOIN, CONSOLE_ON or SELECT
with an argument that R193 refuses is discarded, whatever its record, and changes nothing. -/
def Obligations.EventsTheRegistryDiscards : Prop :=
  (∀ (s : State) (p : SpurIx) (a : Addr) (uid : Uid) (x y : Byte), (s.spur p).link.up = true →
    let discarded := fun c => exec c s = .next { s with handed := s.handed.erase c }
    (1 < x.toNat → discarded (.join p uid x y) ∧ discarded (.consoleOn p a uid x)) ∧
    (0x3F < x.toNat → discarded (.select p a uid x))) ∧
  ∀ (s : State) (p : SpurIx) (a : Addr) (uid : Uid) (c : Instr), (s.spur p).link.up = true →
    c ∈ stationEvents p a uid →
    ((s.station a).state = .empty ∨ (s.station a).uid ≠ uid ∨
        ((s.station a).state ≠ .lost ∧ (s.station a).spur ≠ p) →
      exec c s = .next { s with
        handed := s.handed.erase c, lane := s.lane.place (.station (.stray p a uid)) }) ∧
    (s.addressed p a uid →
      (((s.station a).kind = .console ∧ c ≠ .consoleOff p a uid ∧ ∀ x, c ≠ .consoleOn p a uid x) ∨
        ((s.station a).kind = .delegate ∧ (c = .consoleOff p a uid ∨ ∃ x, c = .consoleOn p a uid x)) ∨
        ((s.station a).key = false ∧ (c = .priorityPress p a uid ∨ c = .priorityRelease p a uid))) →
      exec c s = .next { s with handed := s.handed.erase c }) ∧
    ((s.station a).state = .joining → (s.station a).uid = uid → (s.station a).spur = p →
      ∃ t, exec c s = exec c t ∧ t.addressed p a uid ∧ (t.station a).missed = 0 ∧
        (s.station a).sameFloor (t.station a) ∧ t.handed = s.handed ∧ t.floor = s.floor ∧
        (t.spur p).assign = (s.spur p).assign.filter (fun e => e.addr != a) ∧
        (∀ b, b ≠ a → (s.station b).sameIdentity (t.station b)) ∧
        (s.hasReportRoom → ∃ rs, t.reportList = s.reportList ++
          .station (.joined a uid (s.station a).kind p (s.station a).sec) :: rs)) ∧
    ((s.station a).state = .lost → (s.station a).uid = uid → s.stationsOn p < 48 →
      (∀ x, x ≠ a → (s.station x).state ≠ .empty → (s.station x).uid ≠ uid) →
      exec c s = .next (joined s c p a (joiningRecord uid (s.station a).kind
        ((s.station a).key && (s.station a).kind == .delegate) p (s.station a).sec (s.station a).declared
        (if (s.station a).kind = .console then (s.station a).booth else none) (s.station a).trim
        (s.station a).listen)))

/-- POLL_TIMER_FIRE (R32, R33): the timer starts again from 0; a request already waiting absorbs the firing; else the
PRESENT station of the spur with the next address above the last polled, or the lowest when none is above, becomes the
last polled and is requested; with no PRESENT station nothing is requested. LOST_HOLD_EXPIRY (R36): when the hold of a
LOST record has reached 0, the record becomes EMPTY and EXPIRED is placed with cause HOLD_ELAPSED; no other block is
told. Neither changes anything else. -/
def Obligations.RegistryTimersFire : Prop :=
  (∀ (s : State) (p : SpurIx), s.pollSpacing ≤ (s.spur p).pollTimer →
    ((s.spur p).pollRequest.isSome = true →
      exec (.pollTimerFire p) s = .next { s with spurs := s.spurs.set p { s.spur p with pollTimer := 0 } }) ∧
    ((s.spur p).pollRequest = none → (∀ a, ¬((s.station a).state = .present ∧ (s.station a).spur = p)) →
      exec (.pollTimerFire p) s = .next { s with spurs := s.spurs.set p { s.spur p with pollTimer := 0 } }) ∧
    ((s.spur p).pollRequest = none → ∀ a, (s.station a).state = .present → (s.station a).spur = p →
      ((∃ l, (s.spur p).lastPolled = some l ∧ l < a ∧
          ∀ b, l < b → (s.station b).state = .present → (s.station b).spur = p → a ≤ b) ∨
        ((∀ b, (s.station b).state = .present → (s.station b).spur = p → a ≤ b) ∧
          ∀ l, (s.spur p).lastPolled = some l →
            ∀ b, (s.station b).state = .present → (s.station b).spur = p → b ≤ l)) →
      exec (.pollTimerFire p) s = .next { s with
        spurs := s.spurs.set p { s.spur p with pollTimer := 0, pollRequest := some a, lastPolled := some a } })) ∧
  ∀ (s : State) (a : Addr), (s.station a).state = .lost → (s.station a).holdLeft = 0 →
    ∃ t, exec (.lostHoldExpiry a) s = .next t ∧ (t.station a).state = .empty ∧
      (∀ b, b ≠ a → t.station b = s.station b) ∧
      t = { s with
        stations := t.stations
        lane := s.lane.place (.station (.expired a (s.station a).uid .holdElapsed)) }

/-! ## The control lane -/

/-- Execution of a directive (R182, R183, R184, R194), for every directive row of the table, unknown kinds among them:
with the queue empty and 2 report entries free it is executed at once; it leaves the queue; its RESULT, with its kind,
tag and result code, is the newest report; a refused directive changes nothing beside the RESULT, which then carries
no data; and one that is examined as an order leaves what that order's own rule leaves, as the statements of the
directives below say. -/
def Obligations.DirectivesAreAnsweredOnce : Prop :=
  ∀ (s : State) (c : Instr) (d : Directive), directiveOf c = some d → d.payload.length ≤ 60 → s.ready →
    ∃ t code data, exec c s = .next t ∧ t.lane.directives = [] ∧ t.lane.reserved = false ∧
      (∃ rs, t.reportList = rs ++ [.result d.kind d.tag code data]) ∧
      (code ≠ .ok → code ≠ .okClamped → data = .nothing ∧ t = s.answered d.kind d.tag code .nothing) ∧
      (knownKind d.kind = false → code = .badField) ∧
      (∀ r, examine d.kind d.payload = .refused r → code = r) ∧
      ∀ o, examine d.kind d.payload = .order o →
        let r := o.run (s.executing d)
        code = r.code ∧ data = r.data ∧
        t = { r.state with lane := { r.state.lane with
          directives := [], overrun := none, reserved := false
          reports := r.state.lane.reports ++ [⟨.result d.kind d.tag code data, false⟩] } }

/-- BIND_SEAT (R19): a binding that meets no conflict is added with the fields carried, a declared language of none
taken as absent; a LOST record of another uid at its address becomes EMPTY with EXPIRED, REBOUND, placed before the
RESULT; and no other record changes. Each of the four conflicts refuses it. That booth and console bytes of none are
no booth and console, and no section byte means none, is the model's choice (log 30). UNBIND_SEAT (R20): the binding
of a uid is removed, or the directive is refused with NOT_FOUND; no station record changes. -/
def Obligations.SeatBindingsAreAddedAndRemoved : Prop :=
  ∀ (s : State) (tag : Byte) (uid : Uid) (a : Addr) (sec : Option SecIx) (dec : Option (Option Lang))
    (seat : Option (Option (BoothIx × ConsoleIx))), s.ready → dec ≠ some (some 0) →
    ((∀ b ∈ s.bindings, b.uid ≠ uid ∧ b.addr ≠ a ∧ (seat.join.isSome = true → b.booth ≠ seat.join)) →
      ((s.station a).state = .joining ∨ (s.station a).state = .present → (s.station a).uid = uid) →
      ∃ t, exec (.bindSeat tag (Order.bindSeat uid a sec dec seat).payload) s = .next t ∧
        t.bindings = s.bindings ++ [⟨uid, a, sec, dec.join, seat.join⟩] ∧
        ((s.station a).state = .lost → (s.station a).uid ≠ uid →
          (t.station a).state = .empty ∧ (∀ b, b ≠ a → t.station b = s.station b) ∧
            t.lane.reports = s.lane.reports ++
              [⟨.station (.expired a (s.station a).uid .rebound), false⟩, ⟨.result 0x04 tag .ok .nothing, false⟩]) ∧
        (¬((s.station a).state = .lost ∧ (s.station a).uid ≠ uid) →
          t = { s with bindings := t.bindings }.answered 0x04 tag .ok .nothing)) ∧
    (((∃ b ∈ s.bindings, b.uid = uid ∨ b.addr = a ∨ (seat.join.isSome = true ∧ b.booth = seat.join)) ∨
        (((s.station a).state = .joining ∨ (s.station a).state = .present) ∧ (s.station a).uid ≠ uid)) →
      exec (.bindSeat tag (Order.bindSeat uid a sec dec seat).payload) s =
        .next (s.answered 0x04 tag .conflict .nothing)) ∧
    ((∃ b ∈ s.bindings, b.uid = uid) →
      exec (.unbindSeat tag (uidBytes uid)) s =
        .next ({ s with bindings := s.bindings.filter fun b => b.uid != uid }.answered 0x05 tag .ok .nothing)) ∧
    ((∀ b ∈ s.bindings, b.uid ≠ uid) →
      exec (.unbindSeat tag (uidBytes uid)) s = .next (s.answered 0x05 tag .notFound .nothing))

/-- The room advances its queue by itself (R90): OPEN, or REQUEST with auto-advance. -/
def grantsByItself (s : State) (r : RoomIx) : Prop :=
  (s.room r).mode = .openFloor ∨ ((s.room r).mode = .request ∧ (s.room r).autoAdvance = true)

/-- No request that waits in a room is one that an advance pass could grant (R90). -/
def noneToGrant (t : State) (r : RoomIx) : Prop :=
  ∀ e ∈ t.queue r, (t.room r).maxOpen ≤ t.delegateCount r ∨ t.hasFreeTalk (t.station e.addr).spur = false

/-- In t the rooms of the booths and the rooms and states of the channels are those of R109 to R111: a booth has the room
of its anchor section while that is in service; a channel that no booth names is DARK without a room; one that a single
booth names has that booth's room, and is DARK without a room or with code 0, FLOOR_FOLLOW with the floor language of the
room, SERVED with a console on the output that names it, and else IDLE. -/
def derivedFieldsStand (t : State) : Prop :=
  (∀ b, (t.booth b).room =
    (t.booth b).anchor.bind fun i => if t.sections.get i = true then t.map.live.get i else none) ∧
  ∀ l,
    let names := fun b => (t.booth b).outA = some l ∨ (t.booth b).outB = some l
    ((∀ b, ¬names b) → (t.channel l).room = none ∧ (t.channel l).state = .dark) ∧
    ∀ b, names b → (∀ c, c ≠ b → ¬names c) →
      (t.channel l).room = (t.booth b).room ∧
      ((t.booth b).room = none → (t.channel l).state = .dark) ∧
      ∀ r, (t.booth b).room = some r → (t.channel l).state =
        if (t.channel l).code = 0 then .dark
        else if (t.channel l).code = (t.room r).language then .floorFollow
        else if ((t.booth b).outA = some l ∧ (t.booth b).onA ≠ none) ∨
          ((t.booth b).outB = some l ∧ (t.booth b).onB ≠ none) then .served
        else .idle

/-- From s to t a PRESENT station a has changed its section (R103, R89, R78): it is OFF, with no held press and no request,
and, if it was ON_AIR or QUEUED, without grant stamp and offered LAMP OFF; a station that stands on no output of a booth,
as no delegate does, has no talk slot; and the advance pass of its old room has left no request it could grant. -/
def stationMoved (s t : State) (a : Addr) : Prop :=
  (t.station a).mic = .off ∧ (t.station a).held = false ∧ (∀ e ∈ t.floor.pool, e.addr ≠ a) ∧
    ((s.station a).mic ≠ .off → (t.station a).stamp = none ∧
      ((s.station a).kind = .delegate → (t.station a).lamp = .off)) ∧
    (s.standsOn a = none → (t.station a).talk = none ∧ ∀ q k, (t.spur q).talkSlots.get k ≠ some a) ∧
    ∀ r, s.stationRoom a = some r → s.underChangeover r = false → grantsByItself s r → noneToGrant t r

/-- The FLOOR reports of such a move (R103): CLOSED or REMOVED, and HELD_CLEARED, each with reason MOVED. That they name
the room the station has left is the model's reading (log 15). -/
def movedReports (s : State) (a : Addr) : List Report :=
  let left := fun k => Report.floor ⟨k, some a, s.stationRoom a, .moved, none, none⟩
  (match (s.station a).mic with
    | .onAir => [left .closed]
    | .queued => [left .removed]
    | .off => []) ++ if (s.station a).held then [left .heldCleared] else []

/-- The FLOOR reports of the rooms that lose a station a as chair at a seat check (R63, R95): PRIORITY_OFF with reason
CHAIR where the room's flag was set, and CHAIR_CHANGED with reason MOVED. That the rooms come in ascending order is the
model's choice (log 46). -/
def unseatedReports (s : State) (a : Addr) (unseated : RoomIx → Bool) : List Report :=
  ((List.finRange 16).filter unseated).flatMap fun r =>
    (if s.floor.priority.get r then [.floor ⟨.priorityOff, none, some r, .chair, none, none⟩] else []) ++
      [.floor ⟨.chairChanged, none, some r, .moved, none, some (some a, none)⟩]

/-- From s to t a console a that stood on output o of booth b has left it (R123): it is OFF, without a talk slot, with
console lamp OFF where it stood on no other output, and the booths and channels are evaluated. -/
def consoleLeft (s t : State) (a : Addr) (b : BoothIx) (o : Output) : Prop :=
  (t.station a).mic = .off ∧ (t.station a).talk = none ∧ (∀ q k, (t.spur q).talkSlots.get k ≠ some a) ∧
    ((∀ c x, (s.booth c).standing x = some a → c = b ∧ x = o) → (t.station a).lamp = .off) ∧
    derivedFieldsStand t ∧ t.oneVoice

/-- STATION_SET (R37, R63, R103, R123, R134): the record of a station takes the fields carried and keeps the others,
whatever its state, and no other record changes its registry fields. A PRESENT station whose section changes is closed or
removed from its queue, and its held press cleared, with reason MOVED, before the seat check, so that it is OFF without
talk slot. A record whose section changes, in whatever state (log 41), is chair of no room that does not hold its new
section: that room's chair becomes none, its priority flag is cleared, CHAIR_CHANGED is placed with MOVED and the room's
queue advances; every other chair and flag stays. A PRESENT console whose booth and console change leaves the output it
stands on, with CONSOLE_OFF, MOVED, and its slot is freed; every other console stays on its output, and so does one whose
section alone changes. A PRESENT station that the listening unit is handed is resolved again on the tables as they then
stand. Where neither a section nor the booth of a console on the air changes, the floor, the rooms, the booths and the
channels stay as they were. The floor state of the stations that are not queued stays in every case. A booth and console
given to a DELEGATE, an EMPTY record and a booth and console another station carries are refused with BAD_FIELD,
NOT_FOUND and CONFLICT. The reports are given where the queue has room for them; that a console's reports stand before
those of the seat check is the model's choice (log 42). -/
def Obligations.StationSetWritesItsFields : Prop :=
  ∀ (s : State) (tag : Byte) (a : Addr) (sec : Option (Option SecIx)) (dec : Option (Option Lang))
    (seat : Option (Option (BoothIx × ConsoleIx))) (trim : Option Byte) (listen : Option Lang), s.ready →
    dec ≠ some (some 0) →
    let x := s.station a
    let cmd := Instr.stationSet tag (Order.stationSet a sec dec seat trim listen).payload
    let moved : Bool := sec.getD x.sec != x.sec
    let reseated : Bool := x.state == .present && x.kind == .console && seat.getD x.booth != x.booth
    let retuned : Bool := x.state == .present && x.kind == .delegate && listen.getD x.listen != x.listen
    let unseated : RoomIx → Bool := fun r =>
      moved && (s.room r).chair == some a && (sec.getD x.sec).all fun i => s.map.live.get i != some r
    (x.state ≠ .empty → (seat.join.isSome = true → x.kind = .console) →
      (∀ b y, b ≠ a → (s.station b).state ≠ .empty → seat.join = some y → (s.station b).booth ≠ some y) →
      ∃ t, exec cmd s = .next t ∧
        ((t.station a).sec = sec.getD x.sec ∧ (t.station a).declared = dec.getD x.declared ∧
          (t.station a).booth = seat.getD x.booth ∧ (t.station a).trim = trim.getD x.trim ∧
          (t.station a).listen = listen.getD x.listen ∧ (t.station a).state = x.state ∧ (t.station a).uid = x.uid ∧
          (t.station a).kind = x.kind ∧ (t.station a).key = x.key ∧ (t.station a).spur = x.spur) ∧
        (∀ b, b ≠ a → (s.station b).sameIdentity (t.station b) ∧ (t.station b).listen = (s.station b).listen) ∧
        s.sameSettings t ∧ s.sameMap t ∧ (∀ q, (s.spur q).sameInterface (t.spur q)) ∧
        (∀ c, (t.booth c).anchor = (s.booth c).anchor ∧ (t.booth c).comprehension = (s.booth c).comprehension ∧
          (t.booth c).outA = (s.booth c).outA ∧ (t.booth c).outB = (s.booth c).outB ∧
          (t.booth c).interlock = (s.booth c).interlock) ∧
        (∀ l, (t.channel l).code = (s.channel l).code) ∧
        (∀ r, t.room r = { s.room r with
          chair := if unseated r then none else (s.room r).chair, language := (t.room r).language }) ∧
        (∀ r, (s.room r).languageMode = .fixed → (t.room r).language = (s.room r).language) ∧
        (∀ r, t.floor.priority.get r = (s.floor.priority.get r && !unseated r)) ∧
        (∀ c o, (t.booth c).standing o =
          if reseated = true ∧ s.standsOn a = some (c, o) then none else (s.booth c).standing o) ∧
        (moved = false → reseated = false ∨ s.standsOn a = none →
          t.floor = s.floor ∧ t.map = s.map ∧ t.booths = s.booths ∧ t.channels = s.channels ∧
            (∀ q, (t.spur q).talkSlots = (s.spur q).talkSlots) ∧ ∀ b, (s.station b).sameFloor (t.station b)) ∧
        ((x.state = .present ∧ moved = true) ∨ reseated = true ∨ retuned = true →
          (t.station a).resolved = t.resolve a) ∧
        (s.slotsAgree →
          (∀ b, b ≠ a → (s.station b).mic ≠ .queued → (s.station b).sameFloor (t.station b)) ∧
          (x.state = .present → moved = true → stationMoved s t a) ∧
          (∀ r, unseated r = true → s.underChangeover r = false → grantsByItself s r → noneToGrant t r) ∧
          (s.consolesOff → x.kind = .console → s.standsOn a ≠ none → reseated = false →
            (t.station a).talk = x.talk) ∧
          (s.consolesOff → ∀ b o, reseated = true → s.standsOn a = some (b, o) → consoleLeft s t a b o) ∧
          ((∀ e ∈ s.floor.pool, e.addr = a) → reseated = false ∨ s.standsOn a = none → s.lane.reports.length ≤ 29 →
            ∃ rs, t.reportList = s.reportList ++
              (if x.state = .present ∧ moved = true then movedReports s a else []) ++ unseatedReports s a unseated ++ rs)) ∧
        (s.consolesOff → (moved = true → s.floor.pool = []) → ∀ b o n, reseated = true → s.standsOn a = some (b, o) →
          x.booth = some (b, n) →
          ∃ rs, t.reportList = s.reportList ++ .booth (.consoleOff b n a o .moved) :: rs) ∧
        ∃ rs, t.reportList = rs ++ [.result 0x06 tag .ok .nothing]) ∧
    (x.state ≠ .empty → x.kind = .delegate → seat.join.isSome = true →
      exec cmd s = .next (s.answered 0x06 tag .badField .nothing)) ∧
    (x.state = .empty → exec cmd s = .next (s.answered 0x06 tag .notFound .nothing)) ∧
    (x.state ≠ .empty → x.kind = .console →
      (∃ b y, b ≠ a ∧ (s.station b).state ≠ .empty ∧ seat.join = some y ∧ (s.station b).booth = some y) →
      exec cmd s = .next (s.answered 0x06 tag .conflict .nothing))

/-- SET_TIMING (R33, R39, R67): each setting carried is written, poll spacing and lost hold adjusted to the nearest end
of their ranges, with OK_CLAMPED when one was; a new poll spacing restarts every poll timer; a settle setting above 255
refuses the directive and writes none of its settings. R183 returns the values stored of the two settings that are
adjusted: that the RESULT carries those the directive carries, in the order of the payload and each after a presence
byte, is the model's reading (logs 8 and 40). -/
def Obligations.SetTimingAdjustsAndWrites : Prop :=
  ∀ (s : State) (tag : Byte) (poll hold settle : Option Nat), s.ready → (∀ n ∈ poll, n < 65536) →
    (∀ n ∈ hold, n < 65536) →
    ((∀ n ∈ settle, n ≤ 255) →
      exec (.setTiming tag (Order.setTiming poll hold settle).payload) s =
        .next ({ s with
          pollSpacing := (poll.map fun n => max 16 (min 4096 n)).getD s.pollSpacing
          lostHold := (hold.map fun n => max 1 (min 3600 n)).getD s.lostHold
          map := { s.map with settle := settle.getD s.map.settle }
          spurs :=
            if (poll.map fun n => max 16 (min 4096 n)).getD s.pollSpacing = s.pollSpacing then s.spurs
            else s.spurs.map fun p => { p with pollTimer := 0 } }.answered 0x03 tag
          (if (∃ n ∈ poll, n < 16 ∨ 4096 < n) ∨ (∃ n ∈ hold, n < 1 ∨ 3600 < n) then .okClamped else .ok)
          (.timing (poll.map fun n => max 16 (min 4096 n)) (hold.map fun n => max 1 (min 3600 n))))) ∧
    ((∃ n ∈ settle, 255 < n ∧ n < 65536) →
      exec (.setTiming tag (Order.setTiming poll hold settle).payload) s =
        .next (s.answered 0x03 tag .badField .nothing))

/-- The queries of one byte and MAP_QUERY (R38, R64, R74, R97, R129, and R15): an index or address outside its range is
refused with BAD_FIELD; otherwise the result is OK with the data the query reads, ROOM_QUERY clears the clip count of
its room and SPUR_QUERY the bad-period count of its spur, and nothing else changes. That MAP_QUERY lists the affected ids
(R74) and BOOTH_QUERY the booths that relay from this one (R129) ascending is the model's choice (log 60). -/
def Obligations.QueriesReadAndChangeNothingElse : Prop :=
  ∀ (s : State) (tag b : Byte), s.ready →
    (∀ a : Addr, b.toNat = a.val + 1 →
      exec (.stationQuery tag [b]) s = .next (s.answered 0x07 tag .ok
        (.station (s.station a) ((s.bindings.find? fun x => x.addr == a).map Binding.uid)))) ∧
    (b = 0 ∨ 192 < b.toNat → exec (.stationQuery tag [b]) s = .next (s.answered 0x07 tag .badField .nothing)) ∧
    (∀ r : RoomIx, b.toNat = r.val →
      exec (.roomQuery tag [b]) s = .next ({ s with
        mix := { s.mix with clip := s.mix.clip.set r 0 } }.answered 0x0F tag .ok (.roomState (s.roomData r))) ∧
      exec (.queueQuery tag [b]) s = .next (s.answered 0x11 tag .ok (.queue (s.queueData r)))) ∧
    (15 < b.toNat →
      exec (.roomQuery tag [b]) s = .next (s.answered 0x0F tag .badField .nothing) ∧
      exec (.queueQuery tag [b]) s = .next (s.answered 0x11 tag .badField .nothing)) ∧
    exec (.mapQuery tag []) s = .next (s.answered 0x16 tag .ok (.map s.mapData)) ∧
    (∀ i : BoothIx, b.toNat = i.val + 1 →
      exec (.boothQuery tag [b]) s = .next (s.answered 0x13 tag .ok
        (.boothState (s.booth i) (s.outputData i .a) (s.outputData i .b) (s.relayedFrom i)))) ∧
    (b = 0 ∨ 8 < b.toNat → exec (.boothQuery tag [b]) s = .next (s.answered 0x13 tag .badField .nothing)) ∧
    (∀ p : SpurIx, b.toNat = p.val →
      exec (.spurQuery tag [b]) s = .next ({ s with
        spurs := s.spurs.set p { s.spur p with badCount := 0 } }.answered 0x17 tag .ok (.spur (s.spurData p)))) ∧
    (3 < b.toNat → exec (.spurQuery tag [b]) s = .next (s.answered 0x17 tag .badField .nothing))

/-- PART_QUERY (R189) and WALL_QUERY (R54): the data read, the stray byte count set to 0, the change flags of the walls
read cleared, and nothing else changed; an empty or overlong range of walls and any payload of PART_QUERY are
refused. That PART_QUERY lists the active override lines ascending is the model's choice (log 60). -/
def Obligations.PartAndWallQueriesClearWhatTheyRead : Prop :=
  ∀ (s : State) (tag : Byte), s.ready →
    exec (.partQuery tag []) s = .next ({ s with lane := { s.lane with stray := 0 } }.answered 0x01 tag .ok
      (.part {
        trunkUp := s.trunk.link.up, clock := s.trunk.clock, failRun := s.trunk.link.failRun,
        goodRun := s.trunk.link.goodRun, phase := s.map.phase, flag := s.map.flag,
        overrideActive := s.overrideActive, source := s.override.source, code := s.override.code,
        lines := s.overrideLines, reportFill := s.lane.reports.length + 1, directiveFill := 1,
        overrunEmpty := true, stray := s.lane.stray })) ∧
    (∀ b bs, (b :: bs).length ≤ 60 →
      exec (.partQuery tag (b :: bs)) s = .next (s.answered 0x01 tag .badLength .nothing)) ∧
    (∀ first count : Byte, 1 ≤ count.toNat → first.toNat + count.toNat ≤ 24 →
      ∃ (t : State) (ws : List WallIx), exec (.wallQuery tag [first, count]) s = .next (t.answered 0x0A tag .ok
          (.walls (ws.map fun w => (s.wall w, s.effOpen w)))) ∧
        (∀ w : WallIx, w ∈ ws ↔ first.toNat ≤ w.val ∧ w.val < first.toNat + count.toNat) ∧
        ws.Pairwise (· < ·) ∧ (∀ w ∈ ws, t.wall w = { s.wall w with changed := false }) ∧
        (∀ w, w ∉ ws → t.wall w = s.wall w) ∧ t = { s with walls := t.walls }) ∧
    ∀ first count : Byte, count = 0 ∨ 24 < first.toNat + count.toNat →
      exec (.wallQuery tag [first, count]) s = .next (s.answered 0x0A tag .badField .nothing)

/-! ## Lines, sections and walls -/

/-- SECTION_SET (R48, R72): every pair is written. When no value changes nothing else happens. When one does, in a state
whose map places exactly the enabled sections, the change is a service change, taken at once: the machine is STEADY with
no shadow, no affected id and a clear flag, and the live map places exactly the sections now enabled. Lines, walls and
the registry's fields are kept. -/
def Obligations.SectionSetIsADirectRecompute : Prop :=
  ∀ (s : State) (tag : Byte) (ps : List (SecIx × Bool)), s.ready → pairsOk ps = true →
    ((∀ x ∈ ps, s.sections.get x.1 = x.2) →
      exec (.sectionSet tag (Order.sectionSet ps).payload) s = .next (s.answered 0x08 tag .ok .nothing)) ∧
    ((∃ x ∈ ps, s.sections.get x.1 ≠ x.2) → s.sectionsPlaced →
      ∃ t, exec (.sectionSet tag (Order.sectionSet ps).payload) s = .next t ∧
        (∀ x ∈ ps, t.sections.get x.1 = x.2) ∧
        (∀ i, (∀ x ∈ ps, x.1 ≠ i) → t.sections.get i = s.sections.get i) ∧
        t.map.phase = .steady ∧ t.map.shadow = none ∧ t.map.flag = false ∧ (∀ r, t.map.affected.get r = false) ∧
        (∀ i, (t.map.live.get i).isSome = t.sections.get i) ∧
        t.lines = s.lines ∧ t.walls = s.walls ∧ t.bindings = s.bindings ∧ t.trunk = s.trunk ∧
        t.map.profiles = s.map.profiles ∧ t.map.settle = s.map.settle ∧ t.override = s.override ∧
        ∀ a, (s.station a).sameIdentity (t.station a))

/-- From s to t the changeover machine has taken a recompute request without a service change (R66, R70), on the tables of
t: in STEADY a candidate that is not the live map becomes the shadow of PENDING with a full settle count; in PENDING it
replaces the shadow and sets the count again, or, when it is the live map, takes the machine back to STEADY; in the fades
the flag is set; and nothing else of the map unit changes. -/
def requested (s t : State) : Prop :=
  (s.map.phase = .steady →
    (t.candidate = s.map.live → t.map = s.map) ∧
    (t.candidate ≠ s.map.live → t.map = { s.map with
      phase := .pending, shadow := some t.candidate, settleCount := s.map.settle })) ∧
  (s.map.phase = .pending →
    (t.candidate = s.map.live → t.map = { s.map with phase := .steady, shadow := none, settleCount := 0 }) ∧
    (t.candidate ≠ s.map.live → t.map = { s.map with shadow := some t.candidate, settleCount := s.map.settle })) ∧
  (s.map.phase = .fadeOut ∨ s.map.phase = .fadeIn → t.map = { s.map with flag := true })

/-- The MAP reports of such a request (R66, R73): PENDING with the settle count and the rooms of the shadow on entry to
PENDING, CANCELLED on the way back, and none otherwise. That the rooms are listed ascending is the model's choice (log
60). -/
def requestReports (s t : State) : List Report :=
  match s.map.phase with
  | .steady => if t.candidate = s.map.live then [] else [.map (.pending s.map.settle (roomsOf t.candidate))]
  | .pending => if t.candidate = s.map.live then [.map .cancelled] else []
  | _ => []

/-- WALL_SET (R51, R52, R53): the fields carried are written and the others kept; a state that differs sets the change
flag and places a WALL report first; the RESULT carries the wall as it then stands; no other wall changes. When the
effective openness and the joined pair stay as they were, nothing else changes; when one of them changes, in a state
whose maps place the enabled sections, the changeover machine takes a recompute request (R66, R70) after the WALL
report, and no other block changes. That an exchange of section a and section b counts as another pair is the model's
choice (log 43), and so is that a wall whose sections are both none is not refused as one of equal sections (log 31).
A wall that would be in use without two sections, or whose sections would be equal, is refused with BAD_FIELD, and a
state for a wall with a contact line with CONFLICT. The order of the rooms in MAP PENDING is the model's choice (log
60). -/
def Obligations.WallSetWritesTheWall : Prop :=
  ∀ (s : State) (tag : Byte) (w : WallIx) (inUse : Option Bool) (secA secB : Option (Option SecIx))
    (perm : Option Permission) (isOpen : Option Bool), s.ready →
    let x := s.wall w
    let bad := (inUse.getD x.inUse = true ∧ (secA.getD x.secA = none ∨ secB.getD x.secB = none)) ∨
      (secA.getD x.secA ≠ none ∧ secA.getD x.secA = secB.getD x.secB)
    let c := Instr.wallSet tag (Order.wallSet w inUse secA secB perm isOpen).payload
    (bad → exec c s = .next (s.answered 0x09 tag .badField .nothing)) ∧
    (¬bad → isOpen.isSome = true → x.contact.isSome = true →
      exec c s = .next (s.answered 0x09 tag .conflict .nothing)) ∧
    (¬bad → isOpen = none ∨ x.contact = none →
      ∃ t, exec c s = .next t ∧
        t.wall w = ⟨inUse.getD x.inUse, secA.getD x.secA, secB.getD x.secB, x.contact, perm.getD x.permission,
          isOpen.getD x.isOpen, x.changed || isOpen.getD x.isOpen != x.isOpen⟩ ∧
        (∀ v, v ≠ w → t.wall v = s.wall v) ∧ t.lines = s.lines ∧ t.sections = s.sections ∧ t.bindings = s.bindings ∧
        (∀ a, (s.station a).sameIdentity (t.station a)) ∧
        (∃ rs, t.reportList = s.reportList ++
          (if isOpen.getD x.isOpen = x.isOpen then [] else
            [.wall ⟨w, isOpen.getD x.isOpen, none, (t.wall w).inUse, (t.wall w).permission, t.effOpen w⟩]) ++
          rs ++ [.result 0x09 tag .ok (.wall (t.wall w) (t.effOpen w))]) ∧
        (t.effOpen w = s.effOpen w →
          t.effOpen w = false ∨ ((t.wall w).secA = x.secA ∧ (t.wall w).secB = x.secB) →
          t = { s with walls := t.walls, lane := t.lane }) ∧
        (s.sectionsPlaced →
          t.effOpen w ≠ s.effOpen w ∨
            (t.effOpen w = true ∧ ((t.wall w).secA ≠ x.secA ∨ (t.wall w).secB ≠ x.secB)) →
          requested s t ∧ t = { s with walls := t.walls, map := t.map, lane := t.lane } ∧
          (s.lane.reports.length ≤ 61 → t.reportList = s.reportList ++
            (if isOpen.getD x.isOpen = x.isOpen then [] else
              [.wall ⟨w, isOpen.getD x.isOpen, none, (t.wall w).inUse, (t.wall w).permission, t.effOpen w⟩]) ++
            requestReports s t ++ [.result 0x09 tag .ok (.wall (t.wall w) (t.effOpen w))])))

/-- The lamps at a start or an end of override, from s to t (R169, R170): of the records only lamps change, and none but
those of speakers and of consoles on the air; at a start each PRESENT one of these is MUTED, but a speaker whose lamp was
MUTED already; at an end a speaker that is its room's chair, or whose room's priority flag is clear, has WARNING in the
warning period and else ON_AIR, and a console has ON_AIR when its channel is SERVED and unparked, and else STANDBY. The
talk and listen slots, the links and the windows stay. -/
def overrideLampsFollow (s t : State) : Prop :=
  (∀ a, t.station a = { s.station a with lamp := (t.station a).lamp }) ∧
  (∀ q, (s.spur q).sameInterface (t.spur q) ∧ (t.spur q).talkSlots = (s.spur q).talkSlots ∧
    (t.spur q).listenSlots = (s.spur q).listenSlots) ∧
  (s.overrideActive = t.overrideActive → t.stations = s.stations ∧ t.spurs = s.spurs) ∧
  (∀ a, (s.station a).mic ≠ .onAir → s.standsOn a = none → t.station a = s.station a) ∧
  (s.overrideActive ≠ t.overrideActive → ∀ a, (s.station a).state = .present →
    (∀ r, (s.station a).mic = .onAir → s.stationRoom a = some r → s.standsOn a = none →
      (s.overrideActive = false → s.floorLamp a ≠ .muted → (t.station a).lamp = .muted) ∧
      (t.overrideActive = false → s.isChair r a = true ∨ s.floor.priority.get r = false →
        (t.station a).lamp =
          if s.isChair r a = false ∧ (s.station a).warning = true then .warning else .onAir)) ∧
    ∀ b o, (s.station a).mic ≠ .onAir → s.standsOn a = some (b, o) →
      (s.overrideActive = false → (t.station a).lamp = .muted) ∧
      (t.overrideActive = false → (t.station a).lamp =
        if ∃ l, (s.booth b).output o = some l ∧ (s.channel l).state = .served ∧ (s.channel l).parked = false
        then .onAir else .standby))

/-- LINE_SET (R45, R46, R47): a wall that another line drives refuses it with CONFLICT. Without a new function, or
with the function and target the line has, only polarity and debounce are written. A new function or target re-assigns
the line: its debounced state becomes inactive and its stability count 0, last raw is kept, the old wall loses its
contact line and keeps its state, and a new wall takes the line, to be read again. The RESULT carries the line, and no
other line, section or registry field changes. A line of function OVERRIDE that was active leaves the sources (R166):
override END, or CHANGED while another source stands, with cause REASSIGNED, comes before the RESULT, and an END gives
each lamp its standing (R168 to R170). A ROOM_MUTE line that was active leaves the mute of its section (R172):
MUTE_OFF with cause REASSIGNED comes before the RESULT when no other line mutes it, and nothing else changes. For
every other line nothing but the lines and walls changes, and only the RESULT is placed. -/
def Obligations.LineSetReassignsTheLine : Prop :=
  ∀ (s : State) (tag : Byte) (l : LineIx) (fn : Option LineFunction) (pol : Option Polarity) (deb : Option Byte),
    s.ready →
    let x := s.line l
    let c := Instr.lineSet tag (Order.lineSet l fn pol deb).payload
    let y := { x with polarity := pol.getD x.polarity, debounce := deb.getD x.debounce }
    ((∃ m w, m ≠ l ∧ fn = some (.wall w) ∧ (s.line m).fn = .wall w) →
      exec c s = .next (s.answered 0x0B tag .conflict .nothing)) ∧
    (fn = none ∨ fn = some x.fn → (∀ m w, m ≠ l → fn = some (.wall w) → (s.line m).fn ≠ .wall w) →
      exec c s = .next ({ s with lines := s.lines.set l y }.answered 0x0B tag .ok (.line y))) ∧
    ∀ f, fn = some f → f ≠ x.fn → (∀ m w, m ≠ l → f = .wall w → (s.line m).fn ≠ .wall w) →
      ∃ t, exec c s = .next t ∧
        t.line l = { y with
          fn := f, debounced := false, count := 0, reread := f.wallTarget.isSome, changeDue := false,
          rereadDue := false } ∧
        (∀ m, m ≠ l → t.line m = s.line m) ∧
        (∀ w, t.wall w = { s.wall w with
          contact := if f = .wall w then some l else if x.fn = .wall w then none else (s.wall w).contact }) ∧
        (x.fn = .override → x.debounced = true →
          t = { s with
            lines := t.lines, walls := t.walls, stations := t.stations, spurs := t.spurs, lane := t.lane } ∧
          overrideLampsFollow s t ∧
          t.reportList = s.reportList ++
            [.override (.sources (if t.overrideActive then .changed else .stop) .reassigned (some l) s.override.source
                t.overrideLines s.override.code),
              .result 0x0B tag .ok (.line (t.line l))]) ∧
        (∀ i, x.fn = .roomMute i → x.debounced = true →
          t = { s with lines := t.lines, walls := t.walls, lane := t.lane } ∧
          t.reportList = s.reportList ++
            (if t.muteStands i = true then [] else
              [.override (.mute false i (s.map.live.get i) l .reassigned (t.muteLines i))]) ++
            [.result 0x0B tag .ok (.line (t.line l))]) ∧
        (x.debounced = false ∨ (x.fn ≠ .override ∧ ∀ i, x.fn ≠ .roomMute i) →
          t = { s with lines := t.lines, walls := t.walls, lane := t.lane } ∧
          t.reportList = s.reportList ++ [.result 0x0B tag .ok (.line (t.line l))])

/-- DEBOUNCED_CHANGE and LINE_RE_READ (R43, R44, R50, R53): when they are due, the debounced state takes last raw; the
line's wall takes OPEN when it is active and CLOSED when it is not, with its change flag set and a WALL report placed
when that is a change; a line of no function changes nothing else; an OVERRIDE or ROOM_MUTE line changes no wall, no
map and no floor state. No other line or wall changes. An OVERRIDE line places override START, END or CHANGED with
cause LINE (R166, R168); a START mutes the lamp of every speaker and of every console on the air, an END gives each
the lamp its standing gives, and nothing else changes (R169, R170). A ROOM_MUTE line places MUTE_ON or MUTE_OFF when
the standing of its section changes, and nothing else changes (R172). A wall whose effective openness changes so, in a
state whose maps place the enabled sections, has the changeover machine take a recompute request (R51, R66, R70) after
its WALL report, and no other block changes; the order of the rooms in MAP PENDING is the model's choice (log 60). -/
def Obligations.SettledLinesDriveTheirWalls : Prop :=
  (∀ (s : State) (l : LineIx), (s.line l).changeDue = true → (s.line l).lastRaw ≠ (s.line l).debounced →
    ∃ t, exec (.debouncedChange l) s = .next t ∧
      t.line l = { s.line l with debounced := (s.line l).lastRaw, changeDue := false } ∧
      (∀ m, m ≠ l → t.line m = s.line m) ∧ t.sections = s.sections ∧
      (∀ w, (s.line l).fn = .wall w →
        t.wall w = { s.wall w with
          isOpen := (s.line l).lastRaw, changed := (s.wall w).changed || (s.wall w).isOpen != (s.line l).lastRaw } ∧
        (∀ v, v ≠ w → t.wall v = s.wall v) ∧
        ((s.wall w).isOpen ≠ (s.line l).lastRaw → s.hasReportRoom →
          .wall ⟨w, (s.line l).lastRaw, some l, (s.wall w).inUse, (s.wall w).permission, t.effOpen w⟩ ∈
            t.reportList) ∧
        (t.effOpen w = s.effOpen w → t.map = s.map) ∧
        (s.sectionsPlaced → t.effOpen w ≠ s.effOpen w →
          requested s t ∧ t = { s with lines := t.lines, walls := t.walls, map := t.map, lane := t.lane } ∧
          (s.lane.reports.length + 2 ≤ s.lane.reportRoom → t.reportList = s.reportList ++
            .wall ⟨w, (s.line l).lastRaw, some l, (s.wall w).inUse, (s.wall w).permission, t.effOpen w⟩ ::
              requestReports s t))) ∧
      ((s.line l).fn = .unused → t = { s with lines := t.lines }) ∧
      ((∀ w, (s.line l).fn ≠ .wall w) → t.walls = s.walls ∧ t.map = s.map ∧ t.floor = s.floor ∧
        ∀ a, (s.station a).sameIdentity (t.station a) ∧ (s.station a).sameFloor (t.station a)) ∧
      ((s.line l).fn = .override →
        t.lane = s.lane.place (.override (.sources
          (if s.overrideActive then (if t.overrideActive then .changed else .stop) else .start) .line (some l)
          s.override.source t.overrideLines s.override.code)) ∧
        t = { s with lines := t.lines, stations := t.stations, spurs := t.spurs, lane := t.lane } ∧
        overrideLampsFollow s t) ∧
      ∀ i, (s.line l).fn = .roomMute i →
        t = { s with lines := t.lines, lane := t.lane } ∧
        t.lane = if t.muteStands i = s.muteStands i then s.lane else
          s.lane.place (.override (.mute (t.muteStands i) i (s.map.live.get i) l .line (t.muteLines i)))) ∧
  ∀ (s : State) (l : LineIx) (w : WallIx), (s.line l).rereadDue = true → (s.line l).reread = true →
    (s.line l).fn = .wall w →
    ∃ t, exec (.lineReRead l) s = .next t ∧
      t.line l = { s.line l with
        debounced := (s.line l).lastRaw, reread := false, rereadDue := false, changeDue := false } ∧
      (∀ m, m ≠ l → t.line m = s.line m) ∧ t.sections = s.sections ∧
      t.wall w = { s.wall w with
        isOpen := (s.line l).lastRaw, changed := (s.wall w).changed || (s.wall w).isOpen != (s.line l).lastRaw } ∧
      (∀ v, v ≠ w → t.wall v = s.wall v) ∧
      ((s.wall w).isOpen ≠ (s.line l).lastRaw → s.hasReportRoom →
        .wall ⟨w, (s.line l).lastRaw, some l, (s.wall w).inUse, (s.wall w).permission, t.effOpen w⟩ ∈ t.reportList) ∧
      (t.effOpen w = s.effOpen w → t.map = s.map) ∧
      (s.sectionsPlaced → t.effOpen w ≠ s.effOpen w →
        requested s t ∧ t = { s with lines := t.lines, walls := t.walls, map := t.map, lane := t.lane } ∧
        (s.lane.reports.length + 2 ≤ s.lane.reportRoom → t.reportList = s.reportList ++
          .wall ⟨w, (s.line l).lastRaw, some l, (s.wall w).inUse, (s.wall w).permission, t.effOpen w⟩ ::
            requestReports s t))

/-! ## The room map -/

/-- PROFILE_SET (R60) and PROFILE_CLEAR (R61): an entry takes exactly the section set and the fields carried, max open,
speak limit and silence threshold adjusted into their ranges with OK_CLAMPED; another entry with the same section set
refuses it with CONFLICT; an entry in use is freed, and a free one refused with NOT_FOUND. Nothing else changes. -/
def Obligations.ProfilesAreStoredAndCleared : Prop :=
  ∀ (s : State) (tag : Byte) (e : EntryIx), s.ready →
    (∀ (secs : SecSet) (f : RoomFields), secs ≠ 0 → f.carried = true →
      ((∀ x p, x ≠ e → s.map.profiles.get x = some p → p.secs ≠ secs) →
        let g := { f with
          maxOpen := f.maxOpen.map fun n => max 1 (min 8 n), speakLimit := f.speakLimit.map fun n => min 3600 n,
          silenceThreshold := f.silenceThreshold.map fun n => min 96 n }
        exec (.profileSet tag (Order.profileSet e secs f).payload) s =
          .next ({ s with map := { s.map with profiles := s.map.profiles.set e (some ⟨secs, g⟩) } }.answered 0x0C tag
            (if g = f then .ok else .okClamped) (.profile ⟨secs, g⟩))) ∧
      ((∃ x p, x ≠ e ∧ s.map.profiles.get x = some p ∧ p.secs = secs) →
        exec (.profileSet tag (Order.profileSet e secs f).payload) s =
          .next (s.answered 0x0C tag .conflict .nothing))) ∧
    ((s.map.profiles.get e).isSome = true →
      exec (.profileClear tag [BitVec.ofNat 8 e.val]) s =
        .next ({ s with map := { s.map with profiles := s.map.profiles.set e none } }.answered 0x0D tag .ok
          .nothing)) ∧
    (s.map.profiles.get e = none →
      exec (.profileClear tag [BitVec.ofNat 8 e.val]) s = .next (s.answered 0x0D tag .notFound .nothing)) ∧
    ∀ b : Byte, 31 < b.toNat →
      exec (.profileClear tag [b]) s = .next (s.answered 0x0D tag .badField .nothing)

/-- A station that a ROOM_SET has closed: OFF, without a slot, and CLOSED with the reason placed (R89). -/
def shutBy (t : State) (d : Addr) (r : RoomIx) (reason : Reason) : Prop :=
  (t.station d).mic = .off ∧ (t.station d).talk = none ∧
    .floor ⟨.closed, some d, some r, reason, none, none⟩ ∈ t.reportList

/-- ROOM_SET (R62): the record takes the fields carried, with the clamping of R60 and OK_CLAMPED where it acted, and
keeps the others, and the RESULT carries it as written; its floor language may afterwards follow a speaker granted in
the same event (R101). Of the other records only the chair changes, and only where it is the chair just written. For
an IDLE id nothing but the record changes. A chair for an IDLE id, or one whose seat section is not in the room, is
refused with CONFLICT. For an ACTIVE id the floor controller reacts (R100, R95): a max open lowered below the count
closes the delegates granted last with LIMIT; a new speak limit closes with TIME those it finds at it and moves the
others in or out of their warning period; a silence timeout set or lowered closes with SILENCE; a new chair clears the
priority flag, makes the former chair count, closes the excess with LIMIT while the new chair still counts, takes the
new chair out of the queue or starts its counts again, and places CHAIR_CHANGED; and where a change names the room to
the advance pass, no request is left that the pass could grant. -/
def Obligations.RoomSetWritesTheRecord : Prop :=
  ∀ (s : State) (tag : Byte) (r : RoomIx) (f : RoomFields), s.ready → f.carried = true →
    let c := Instr.roomSet tag (Order.roomSet r f).payload
    let x := s.room r
    ((∃ a, f.chair = some (some a) ∧ (s.active r = false ∨ s.seatIn s.map.live r a = false)) →
      exec c s = .next (s.answered 0x0E tag .conflict .nothing)) ∧
    ((∀ a, f.chair = some (some a) → s.active r = true ∧ s.seatIn s.map.live r a = true) →
      ∃ t, exec c s = .next t ∧
        t.room r = ⟨f.mode.getD x.mode, (f.maxOpen.map fun n => max 1 (min 8 n)).getD x.maxOpen,
          f.autoAdvance.getD x.autoAdvance, (f.speakLimit.map fun n => min 3600 n).getD x.speakLimit,
          f.silenceTimeout.getD x.silenceTimeout, (f.silenceThreshold.map fun n => min 96 n).getD x.silenceThreshold,
          f.master.getD x.master, f.inject.getD x.inject, f.injectCode.getD x.injectCode, (t.room r).language,
          f.languageMode.getD x.languageMode, f.chair.getD x.chair, f.priorityMode.getD x.priorityMode⟩ ∧
        (f.languageMode.getD x.languageMode = .fixed → (t.room r).language = f.language.getD x.language) ∧
        (∀ q, q ≠ r → t.room q = { s.room q with
          chair := if f.chair.join.isSome ∧ (s.room q).chair = f.chair.join then none else (s.room q).chair,
          language := (t.room q).language }) ∧
        s.sameSettings t ∧ s.sameMap t ∧ (∀ a, (s.station a).sameIdentity (t.station a)) ∧
        (∃ rs, t.reportList = rs ++ [.result 0x0E tag
          (if (∃ n ∈ f.maxOpen, n < 1 ∨ 8 < n) ∨ (∃ n ∈ f.speakLimit, 3600 < n) ∨ (∃ n ∈ f.silenceThreshold, 96 < n)
            then .okClamped else .ok) (.room { t.room r with language := f.language.getD x.language })]) ∧
        (s.active r = false → s.quiet → t = { s with map := t.map, lane := t.lane }) ∧
        (s.active r = true → s.quiet → s.slotsAgree → s.consolesOff → (s.speakers r).length ≤ 9 →
          s.lane.reports.length ≤ 20 →
          (∀ n, f.maxOpen = some n → max 1 (min 8 n) < x.maxOpen → f.speakLimit = none → f.silenceTimeout = none →
            f.chair = none →
            let late := (s.delegates r).reverse.take (s.delegateCount r - max 1 (min 8 n))
            (∀ d ∈ late, shutBy t d r .limit) ∧
            ∀ d ∈ s.speakers r, d ∉ late → (s.station d).sameFloor (t.station d)) ∧
          (∀ n, f.speakLimit = some n → min 3600 n ≠ x.speakLimit → f.maxOpen = none → f.silenceTimeout = none →
            f.chair = none → ∀ d ∈ s.delegates r,
            (min 3600 n ≠ 0 → min 3600 n ≤ (s.station d).seconds → shutBy t d r .time) ∧
            (min 3600 n = 0 ∨ (s.station d).seconds < min 3600 n →
              (t.station d).mic = .onAir ∧ (t.station d).warning =
                decide (30 < min 3600 n ∧ min 3600 n ≤ (s.station d).seconds + 30))) ∧
          (∀ n, f.silenceTimeout = some n → n ≠ 0 → x.silenceTimeout = 0 ∨ n < x.silenceTimeout → f.maxOpen = none →
            f.speakLimit = none → f.chair = none → ∀ d ∈ s.delegates r,
            (n * 48000 ≤ (s.station d).silence → shutBy t d r .silence) ∧
            ((s.station d).silence < n * 48000 → (s.station d).sameFloor (t.station d))) ∧
          (∀ new, f.chair = some new → new ≠ x.chair → f.maxOpen = none → f.speakLimit = none →
            f.silenceTimeout = none →
            let counts := ∃ a, x.chair = some a ∧ (s.station a).mic = .onAir ∧ s.stationRoom a = some r
            let late := (s.speakers r).reverse.take ((s.speakers r).length - x.maxOpen)
            t.floor.priority.get r = false ∧
            (s.floor.priority.get r = true →
              .floor ⟨.priorityOff, none, some r, .chair, none, none⟩ ∈ t.reportList) ∧
            .floor ⟨.chairChanged, none, some r, .directive, none, some (x.chair, new)⟩ ∈ t.reportList ∧
            (counts → ∀ d ∈ late, shutBy t d r .limit) ∧
            (∀ d ∈ s.speakers r, ¬(counts ∧ d ∈ late) →
              (t.station d).mic = .onAir ∧ (t.station d).talk = (s.station d).talk ∧
              (x.chair = some d ∨ new = some d → (t.station d).seconds = 0 ∧ (t.station d).silence = 0) ∧
              (x.chair ≠ some d → new ≠ some d → (s.station d).sameFloor (t.station d))) ∧
            ∀ n, new = some n → (s.station n).mic = .queued → s.stationRoom n = some r →
              (t.station n).mic = .off ∧ .floor ⟨.removed, some n, some r, .chair, none, none⟩ ∈ t.reportList) ∧
          (s.underChangeover r = false →
            (t.room r).mode = .openFloor ∨ ((t.room r).mode = .request ∧ (t.room r).autoAdvance = true) →
            x.maxOpen < (t.room r).maxOpen ∨ x.mode ≠ (t.room r).mode ∨ x.chair ≠ (t.room r).chair ∨
              ((t.room r).mode = .request ∧ x.autoAdvance = false) →
            ∀ e ∈ t.queue r, (t.room r).maxOpen ≤ t.delegateCount r ∨
              t.hasFreeTalk (t.station e.addr).spur = false)))

/-- EPOCH_BOUNDARY (R67, R68, R73): in PENDING, with settle count 0 the ids whose section set differs between the live
map and the shadow become the affected ids, the machine enters FADE_OUT, and MAP FADE_OUT is placed; otherwise the count
goes down by one. In any other state the boundary does nothing, and nothing else changes. That MAP FADE_OUT lists the
affected ids ascending is the model's choice (log 60). -/
def Obligations.EpochBoundarySettlesAPendingMap : Prop :=
  ∀ s : State, s.trunk.epochDue = true →
    (∀ m, s.map.phase = .pending → s.map.shadow = some m → s.map.settleCount = 0 →
      ∃ t, exec .epochBoundary s = .next t ∧ t.map.phase = .fadeOut ∧
        (∀ r, t.map.affected.get r = true ↔ sectionSet s.map.live r ≠ sectionSet m r) ∧
        t = { s with
          trunk := { s.trunk with epochDue := false }
          map := { s.map with phase := .fadeOut, affected := t.map.affected, settleCount := 0 }
          lane := s.lane.place (.map (.fadeOut (finsWhere 16 t.map.affected.get))) }) ∧
    (∀ m n, s.map.phase = .pending → s.map.shadow = some m → s.map.settleCount = n + 1 →
      exec .epochBoundary s = .next { s with
        trunk := { s.trunk with epochDue := false }, map := { s.map with settleCount := n } }) ∧
    (s.map.phase ≠ .pending →
      exec .epochBoundary s = .next { s with trunk := { s.trunk with epochDue := false } })

/-- Step 4 of R104 for a room r whose section set a swap changes, where s is the state before the swap, u that state on
the new map, and t the state after the swap: with a station ON_AIR that was a chair and is not the chair of r, the excess of
the ON_AIR stations but a chair that keeps its role is closed with LIMIT, and put in no queue; the reports of it are queued
where the swap has few others to place. The others stay ON_AIR with their stamps, with their counts started again where
they lost or took the role, and carried over where not. That a station which becomes chair counts still in the excess is
the model's reading (log 17). -/
def rolesTaken (s u t : State) (r : RoomIx) : Prop :=
  let was := fun a => (List.finRange 16).any fun q => s.isChair q a
  let counted := (u.speakers r).filter fun a => !(was a && u.isChair r a)
  let late := counted.reverse.take (counted.length - (u.room r).maxOpen)
  (∃ a ∈ u.speakers r, was a = true ∧ u.isChair r a = false) →
    (∀ d ∈ late, (t.station d).mic = .off ∧ (t.station d).talk = none ∧ (t.station d).stamp = none) ∧
    (s.lane.reports.length ≤ 8 → (u.speakers r).length ≤ 20 →
      (∀ q, q ≠ r → activeIn u.map.live q = true → sectionSet u.map.live q = sectionSet s.map.live q) →
      (∀ a, (s.station a).mic ≠ .off ∨ (s.station a).held = true → u.stationRoom a ≠ none) →
      ∀ d ∈ late, .floor ⟨.closed, some d, some r, .limit, none, none⟩ ∈ t.reportList) ∧
    ∀ d ∈ u.speakers r, d ∉ late → (t.station d).mic = .onAir ∧ (t.station d).stamp = (s.station d).stamp ∧
      ((t.station d).seconds, (t.station d).subFrames, (t.station d).silence) =
        if was d = u.isChair r d then ((s.station d).seconds, (s.station d).subFrames, (s.station d).silence)
        else (0, 0, 0)

/-- FADE_OUT_END (R69, R73, R104, R105, R150): once every affected applied code is 0, the shadow becomes the live map and
the machine enters FADE_IN with the affected ids and the flag kept; an id whose section set the swap does not change
keeps its record, but for a floor language that follows a speaker, and a changed id has the record R59 builds; a station
without a room is off the air and in no queue; where a speaker of a changed room has lost its chair, the roles are taken
and the excess is closed as step 4 of R104 gives; no room has more open delegates than its max open; applied codes and clip
counts stay; and lines, walls, sections and the registry's fields are kept. -/
def Obligations.FadeOutEndsInTheSwap : Prop :=
  ∀ (s : State) (m : RoomMap), s.map.phase = .fadeOut → s.map.shadow = some m →
    (∀ r, s.map.affected.get r = true → s.mix.applied.get r = 0) →
    ∃ t, exec .fadeOutEnd s = .next t ∧ t.map.live = m ∧ t.map.shadow = none ∧ t.map.phase = .fadeIn ∧
      t.map.affected = s.map.affected ∧ t.map.flag = s.map.flag ∧ t.map.settle = s.map.settle ∧
      t.map.profiles = s.map.profiles ∧
      (∀ r, sectionSet s.map.live r = sectionSet m r → t.room r = { s.room r with language := (t.room r).language }) ∧
      (∀ r, sectionSet s.map.live r ≠ sectionSet m r → activeIn m r = true →
        t.room r = { s.builtRecord m r with language := (t.room r).language }) ∧
      (∀ r, sectionSet s.map.live r ≠ sectionSet m r → activeIn m r = false →
        t.room r = { s.room r with language := (t.room r).language }) ∧
      (∀ a, t.stationRoom a = none → (t.station a).mic = .off) ∧ t.withinMaxOpen ∧
      (s.slotsAgree → ∀ r, sectionSet s.map.live r ≠ sectionSet m r → activeIn m r = true →
        rolesTaken s { s with map := { s.map with live := m, rooms := s.builtRooms m } } t r) ∧
      s.sameSettings t ∧ ∀ a, (s.station a).sameIdentity (t.station a)

/-- From s to u the queues of the rooms of a set have been walked (R90, R106 step 1): no entry of such a room that is
ACTIVE and advances by itself is left that its room's max open and its spur's talk slots allow; an entry granted leaves
before it, in queue order, only entries without a free slot; and no station changes its floor state but by a grant of its
entry in such a room. -/
def queuesWalked (s u : State) (rooms : RoomIx → Bool) : Prop :=
  (∀ r, rooms r = true → s.active r = true → grantsByItself s r → ∀ e ∈ u.floor.pool, u.stationRoom e.addr = some r →
    (u.room r).maxOpen ≤ u.delegateCount r ∨ u.hasFreeTalk (u.station e.addr).spur = false) ∧
  (∀ r (es fs : List PoolEntry) e e', s.queue r = es ++ e :: fs → e' ∈ fs → (u.station e.addr).mic = .queued →
    (u.station e'.addr).mic = .onAir → u.hasFreeTalk (u.station e.addr).spur = false) ∧
  (∀ e ∈ u.floor.pool, e ∈ s.floor.pool) ∧
  ∀ a, (s.station a).sameFloor (u.station a) ∨
    ((s.station a).mic = .queued ∧ (u.station a).mic = .onAir ∧
      ∃ r, s.stationRoom a = some r ∧ rooms r = true ∧ s.active r = true ∧ grantsByItself s r)

/-- The held press of a PRESENT station taken (R106 step 2): it is cleared without report, and a PRESS of the station is
executed as a fresh event; a station without one is passed over. -/
def heldPressTaken (w : State) (a : Addr) : State :=
  if (w.station a).held = true ∧ (w.station a).state = .present then
    match exec (.press (w.station a).spur a (w.station a).uid)
      { w with stations := w.stations.set a { w.station a with held := false } } with
    | .next v => { v with handed := w.handed }
    | _ => w
  else w

/-- FADE_IN_END (R71, R106): once every affected ACTIVE id has met its target, no id is affected, COMPLETE is placed, the
queues of the affected rooms are walked, and then, in ascending address order, every held press of a PRESENT station is
cleared and taken as a fresh PRESS, so that no PRESENT station keeps one. With the flag clear the machine is STEADY on the
live map, and nothing else is done. With it set, the flag is cleared and a request is taken: the machine stays STEADY when
the tables give the live map, and is PENDING with their candidate and a full settle count when they do not. -/
def Obligations.FadeInEndsTheChangeover : Prop :=
  ∀ s : State, s.map.phase = .fadeIn →
    (∀ r, s.map.affected.get r = true → s.active r = true → s.map.met.get r = true) →
    ∃ t, exec .fadeInEnd s = .next t ∧ (∀ r, t.map.affected.get r = false) ∧ t.map.live = s.map.live ∧
      t.map.flag = false ∧ (s.hasReportRoom → ∃ rs, t.reportList = s.reportList ++ .map .complete :: rs) ∧
      (∀ a, (s.station a).state = .present → (t.station a).held = false) ∧
      (s.map.flag = false → t.map.phase = .steady ∧ t.map.shadow = s.map.shadow) ∧
      (s.map.flag = true → s.candidate = s.map.live → t.map.phase = .steady) ∧
      (s.map.flag = true → s.candidate ≠ s.map.live →
        t.map.phase = .pending ∧ t.map.shadow = some s.candidate ∧ t.map.settleCount = s.map.settle) ∧
      s.sameSettings t ∧ (∀ a, (s.station a).sameIdentity (t.station a)) ∧
      (s.slotsAgree → (∀ a, (s.station a).held = true → (s.station a).state = .present →
          (s.station a).kind = .delegate ∧ (s.spur (s.station a).spur).link.up = true) →
        let ended : State := { s with
          map := { s.map with affected := .fill 16 false, met := .fill 16 false }
          lane := s.lane.place (.map .complete) }
        let u := ended.advance [] ((List.finRange 16).filter s.map.affected.get)
        let v := (List.finRange 192).foldl heldPressTaken u
        queuesWalked s u s.map.affected.get ∧
        (s.map.flag = false → t = { v with map := { v.map with phase := .steady } }) ∧
        t = { v with
          map := { v.map with
            phase := t.map.phase, shadow := t.map.shadow, settleCount := t.map.settleCount, flag := false }
          lane := t.lane } ∧
        ∃ rs, t.reportList = v.reportList ++ rs)

/-! ## Floor control -/

/-- A PRESS from an OFF delegate, other than the chair, of a room that is not under changeover. -/
def offDelegatePress (s : State) (p : SpurIx) (a : Addr) (uid : Uid) (r : RoomIx) : Prop :=
  s.addressed p a uid ∧ s.quiet ∧ (s.station a).kind = .delegate ∧ s.stationRoom a = some r ∧
    s.underChangeover r = false ∧ s.isChair r a = false ∧ (s.station a).mic = .off

/-- A PRESS from the OFF chair of a room that is not under changeover. -/
def offChairPress (s : State) (p : SpurIx) (a : Addr) (uid : Uid) (r : RoomIx) : Prop :=
  s.addressed p a uid ∧ s.quiet ∧ s.stationRoom a = some r ∧ s.underChangeover r = false ∧ s.isChair r a = true ∧
    (s.station a).mic = .off

/-- From s to t a command c has offered one station of spur p one lamp: the record takes the lamp, a LAMP waits for it in
the queue, in the overflow hold or as a mark, and nothing else changes but what the lane is said to (R25 to R28). -/
def onlyLamp (s t : State) (c : Instr) (p : SpurIx) (a : Addr) (l : Lamp) (lane : LaneUnit) : Prop :=
  t = { s with handed := s.handed.erase c, stations := t.stations, spurs := t.spurs, lane := lane } ∧
    t.station a = { s.station a with lamp := l } ∧ (∀ b, b ≠ a → t.station b = s.station b) ∧
    (∀ q, q ≠ p → t.spur q = s.spur q) ∧
    t.spur p = { s.spur p with queue := (t.spur p).queue, hold := (t.spur p).hold, marks := (t.spur p).marks } ∧
    (.to a (.lamp l) ∈ (t.spur p).queue ∨ (t.spur p).hold = some (.to a (.lamp l)) ∨ (a, .lamp) ∈ (t.spur p).marks)

/-- PRESS in an OPEN room below its max open, and in a REPLACE room below it, with a free talk slot (R77, R84, R85,
R88): the station takes the lowest free slot and the next grant stamp, is ON_AIR with its counts and envelope at 0, is
offered its lamp, and GRANTED is placed with reason PRESS. The floor state of every other station, the pool's other
entries and the talk slots of the other stations stay as they were. A PRESS from the chair of a room (R92) is granted
with reason CHAIR in every mode and without regard to max open: in the lowest free slot of its spur; with none free,
in the slot of the delegate of its room granted last on that spur, which is closed with RECLAIMED; with no such
delegate it is refused with NO_SLOT. -/
def Obligations.PressBelowTheLimitIsGranted : Prop :=
  (∀ (s : State) (p : SpurIx) (a : Addr) (uid : Uid) (r : RoomIx) (k : SlotIx), offDelegatePress s p a uid r →
    (s.room r).mode = .openFloor ∨ (s.room r).mode = .replace → s.delegateCount r < (s.room r).maxOpen →
    (s.station a).talk = none → (s.spur p).talkSlots.get k = none →
    (∀ j, j < k → (s.spur p).talkSlots.get j ≠ none) →
    ∃ t, exec (.press p a uid) s = .next t ∧
      (t.station a).mic = .onAir ∧ (t.station a).talk = some k ∧ (t.spur p).talkSlots.get k = some a ∧
      (t.station a).stamp = some s.floor.grantStamp ∧ t.floor.grantStamp = s.floor.grantStamp + 1 ∧
      (t.station a).seconds = 0 ∧ (t.station a).subFrames = 0 ∧ (t.station a).silence = 0 ∧
      (t.station a).envelope = 0 ∧
      (t.station a).lamp =
        (if s.overrideActive then .muted else if s.floor.priority.get r then .muted else .onAir) ∧
      (∀ b, b ≠ a → (s.station b).sameFloor (t.station b)) ∧
      (∀ q j, (q, j) ≠ (p, k) → (t.spur q).talkSlots.get j = (s.spur q).talkSlots.get j) ∧
      t.floor.pool = s.floor.pool.filter (fun e => e.addr != a) ∧ t.floor.requestStamp = s.floor.requestStamp ∧
      t.floor.priority = s.floor.priority ∧
      (s.hasReportRoom → .floor ⟨.granted, some a, some r, .press, some (t.room r).language, none⟩ ∈ t.reportList) ∧
      ((s.room r).languageMode = .fixed → t.map = s.map ∧ t.booths = s.booths ∧ t.channels = s.channels)) ∧
  ∀ (s : State) (p : SpurIx) (a : Addr) (uid : Uid) (r : RoomIx), offChairPress s p a uid r →
    (s.station a).talk = none →
    (∀ k, (s.spur p).talkSlots.get k = none → (∀ j, j < k → (s.spur p).talkSlots.get j ≠ none) →
      ∃ t, exec (.press p a uid) s = .next t ∧ (t.station a).mic = .onAir ∧ (t.station a).talk = some k ∧
        (t.spur p).talkSlots.get k = some a ∧ (t.station a).stamp = some s.floor.grantStamp ∧
        (t.station a).lamp = (if s.overrideActive then .muted else .onAir) ∧
        (∀ b, b ≠ a → (s.station b).sameFloor (t.station b)) ∧
        (∀ q j, (q, j) ≠ (p, k) → (t.spur q).talkSlots.get j = (s.spur q).talkSlots.get j) ∧
        t.floor.priority = s.floor.priority ∧
        (s.hasReportRoom → ∃ c rs, t.reportList = s.reportList ++
          .floor ⟨.granted, some a, some r, .chair, some c, none⟩ :: rs)) ∧
    (s.hasFreeTalk p = false →
      (∀ d, ((s.delegates r).filter fun d => (s.station d).spur == p).getLast? = some d → s.slotsAgree →
        (s.station d).talk ≠ none →
        ∃ t, exec (.press p a uid) s = .next t ∧ (t.station a).mic = .onAir ∧
          (t.station a).talk = (s.station d).talk ∧ (t.station d).mic = .off ∧ (t.station d).talk = none ∧
          (t.station d).stamp = none ∧
          (∀ b, b ≠ a → b ≠ d → (s.station b).mic ≠ .queued → (s.station b).sameFloor (t.station b)) ∧
          (s.lane.reports.length + 2 ≤ s.lane.reportRoom → ∃ c rs, t.reportList = s.reportList ++
            .floor ⟨.closed, some d, some r, .reclaimed, none, none⟩ ::
              .floor ⟨.granted, some a, some r, .chair, some c, none⟩ :: rs)) ∧
      ((∀ d ∈ s.delegates r, (s.station d).spur ≠ p) →
        ∃ t, exec (.press p a uid) s = .next t ∧ onlyLamp s t (.press p a uid) p a .refused
          (s.lane.place (.floor ⟨.requestRefused, some a, some r, .noSlot, none, none⟩))))

/-- PRESS that enqueues (R78, R79, R84, R86): in an OPEN room at its limit or without a free slot, and in a REQUEST
room whose auto-advance is off or that is at its limit, an entry with the next request stamp joins the pool, the
station is QUEUED with lamp NEXT when it is the head and REQUESTED otherwise, and QUEUED is placed with reason PRESS;
a press that finds the pool full is refused with POOL_FULL and LAMP REFUSED. The floor state of every other station
stays as it was. In a REQUEST room with auto-advance on, below its limit and with no request waiting, a press with a
free slot is QUEUED and granted with reason AUTO in the same event (R86, R90). The other presses (R83): from a station
without a room LAMP UNPLACED is the only answer; under changeover the first PRESS or PRIORITY_PRESS of an OFF station
is held with HELD and a further one changes nothing; and a QUEUED or ON_AIR station is offered its floor lamp again.
-/
def Obligations.PressAtTheLimitIsQueued : Prop :=
  (∀ (s : State) (p : SpurIx) (a : Addr) (uid : Uid) (r : RoomIx), offDelegatePress s p a uid r →
    ((s.room r).mode = .openFloor ∧ ((s.room r).maxOpen ≤ s.delegateCount r ∨ s.hasFreeTalk p = false)) ∨
      ((s.room r).mode = .request ∧ ((s.room r).autoAdvance = false ∨ (s.room r).maxOpen ≤ s.delegateCount r)) →
    (s.floor.pool.length < 64 →
      ∃ t, exec (.press p a uid) s = .next t ∧
        t.floor.pool = s.floor.pool ++ [⟨a, s.floor.requestStamp, false⟩] ∧
        t.floor.requestStamp = s.floor.requestStamp + 1 ∧ t.floor.grantStamp = s.floor.grantStamp ∧
        t.floor.priority = s.floor.priority ∧ (t.station a).mic = .queued ∧
        (t.station a).lamp = (if t.head r = some a then .next else .requested) ∧
        (∀ b, b ≠ a → (s.station b).sameFloor (t.station b)) ∧
        (∀ q, (t.spur q).talkSlots = (s.spur q).talkSlots) ∧ t.map = s.map ∧
        (s.hasReportRoom →
          t.reportList = s.reportList ++ [.floor ⟨.queued, some a, some r, .press, none, none⟩])) ∧
    (64 ≤ s.floor.pool.length →
      ∃ t, exec (.press p a uid) s = .next t ∧ (t.station a).lamp = .refused ∧ t.floor = s.floor ∧
        (∀ b, (s.station b).sameFloor (t.station b)) ∧ (∀ q, (t.spur q).talkSlots = (s.spur q).talkSlots) ∧
        t.map = s.map ∧
        (s.hasReportRoom →
          t.reportList = s.reportList ++ [.floor ⟨.requestRefused, some a, some r, .poolFull, none, none⟩]))) ∧
  (∀ (s : State) (p : SpurIx) (a : Addr) (uid : Uid) (r : RoomIx), offDelegatePress s p a uid r →
    (s.room r).mode = .request → (s.room r).autoAdvance = true → s.delegateCount r < (s.room r).maxOpen →
    s.queue r = [] → (s.station a).talk = none → s.hasFreeTalk p = true → s.floor.pool.length < 64 →
    ∃ t, exec (.press p a uid) s = .next t ∧ (t.station a).mic = .onAir ∧ (t.station a).talk ≠ none ∧
      (t.station a).stamp = some s.floor.grantStamp ∧ t.floor.requestStamp = s.floor.requestStamp + 1 ∧
      t.floor.pool = s.floor.pool.filter (fun e => e.addr != a) ∧
      (∀ b, b ≠ a → (s.station b).sameFloor (t.station b)) ∧
      (s.lane.reports.length + 2 ≤ s.lane.reportRoom → ∃ c rs, t.reportList = s.reportList ++
        .floor ⟨.queued, some a, some r, .press, none, none⟩ ::
          .floor ⟨.granted, some a, some r, .auto, some c, none⟩ :: rs)) ∧
  ∀ (s : State) (p : SpurIx) (a : Addr) (uid : Uid) (c : Instr), s.addressed p a uid → s.quiet →
    (s.station a).kind = .delegate →
    c = .press p a uid ∨ (c = .priorityPress p a uid ∧ (s.station a).key = true) →
    (s.stationRoom a = none → ∃ t, exec c s = .next t ∧ onlyLamp s t c p a .unplaced s.lane) ∧
    ∀ r, s.stationRoom a = some r →
      (s.underChangeover r = true → (s.station a).mic = .off →
        ((s.station a).held = false → exec c s = .next { s with
          handed := s.handed.erase c
          stations := s.stations.set a { s.station a with held := true }
          lane := s.lane.place (.floor ⟨.held, some a, some r, .press, none, none⟩) }) ∧
        ((s.station a).held = true → exec c s = .next { s with handed := s.handed.erase c })) ∧
      ((s.station a).mic ≠ .off → s.underChangeover r = true ∨ c = .press p a uid →
        ∃ t, exec c s = .next t ∧ onlyLamp s t c p a (s.floorLamp a) s.lane)

/-- PRESS in a REPLACE room at its max open (R85): when the presser's spur has a free slot, or the oldest delegate holds
one on it, the oldest delegate of the room is closed with REPLACED and the presser granted; otherwise the press is
refused with NO_SLOT and no one is closed. The floor state of every other station stays as it was, but for stations the
advance pass takes from a queue. Below the max open, a press without a free slot is refused with NO_SLOT too. -/
def Obligations.ReplacePressTakesTheOldestPlace : Prop :=
  (∀ (s : State) (p : SpurIx) (a : Addr) (uid : Uid) (r : RoomIx), offDelegatePress s p a uid r →
    (s.room r).mode = .replace → s.delegateCount r < (s.room r).maxOpen → s.hasFreeTalk p = false →
    ∃ t, exec (.press p a uid) s = .next t ∧ onlyLamp s t (.press p a uid) p a .refused
      (s.lane.place (.floor ⟨.requestRefused, some a, some r, .noSlot, none, none⟩))) ∧
  ∀ (s : State) (p : SpurIx) (a d : Addr) (uid : Uid) (r : RoomIx), offDelegatePress s p a uid r →
    s.slotsAgree → (s.station a).talk = none → (s.room r).mode = .replace → (s.room r).maxOpen = s.delegateCount r →
    (s.delegates r).head? = some d →
    (s.hasFreeTalk p = true ∨ ((s.station d).spur = p ∧ (s.station d).talk ≠ none) →
      ∃ t, exec (.press p a uid) s = .next t ∧ (t.station d).mic = .off ∧ (t.station d).talk = none ∧
        (t.station d).stamp = none ∧ (t.station a).mic = .onAir ∧ (t.station a).talk ≠ none ∧
        (t.station a).stamp = some s.floor.grantStamp ∧
        (∀ b, b ≠ a → b ≠ d → (s.station b).mic ≠ .queued → (s.station b).sameFloor (t.station b)) ∧
        (s.hasReportRoom → .floor ⟨.closed, some d, some r, .replaced, none, none⟩ ∈ t.reportList)) ∧
    (s.hasFreeTalk p = false → (s.station d).spur ≠ p →
      ∃ t, exec (.press p a uid) s = .next t ∧ (t.station a).lamp = .refused ∧ t.floor = s.floor ∧
        (∀ b, (s.station b).sameFloor (t.station b)) ∧ (∀ q, (t.spur q).talkSlots = (s.spur q).talkSlots) ∧
        (s.hasReportRoom →
          t.reportList = s.reportList ++ [.floor ⟨.requestRefused, some a, some r, .noSlot, none, none⟩]))

/-- What a close leaves of the station (R89): OFF, no slot, no grant stamp, its counts 0, and LAMP OFF when it is
PRESENT; CLOSED with the reason is the first report placed; and a station that is not queued for the floor keeps its
floor state. -/
def closedWith (s t : State) (a : Addr) (r : RoomIx) (reason : Reason) : Prop :=
  (t.station a).mic = .off ∧ (t.station a).talk = none ∧ (t.station a).stamp = none ∧ (t.station a).seconds = 0 ∧
    (t.station a).subFrames = 0 ∧ (t.station a).silence = 0 ∧ (t.station a).warning = false ∧
    ((s.station a).talk ≠ none → (t.station a).envelope = 0) ∧
    ((s.station a).state = .present → (t.station a).lamp = .off) ∧
    (∀ q k, (t.spur q).talkSlots.get k ≠ some a) ∧
    (∀ b, b ≠ a → (s.station b).mic ≠ .queued → (s.station b).sameFloor (t.station b)) ∧
    (s.hasReportRoom → ∃ rs, t.reportList =
      s.reportList ++ .floor ⟨.closed, some a, some r, reason, none, none⟩ :: rs)

/-- RELEASE and CANCEL (R87, R78, R89): RELEASE closes an ON_AIR station with RELEASED and CANCEL removes a QUEUED one
with CANCELLED; either clears a held press with HELD_CLEARED; in every other state, and from a station without a room
(R83), nothing happens. -/
def Obligations.ReleaseAndCancelAct : Prop :=
  (∀ (s : State) (p : SpurIx) (a : Addr) (uid : Uid), s.addressed p a uid → (s.station a).kind = .delegate →
    s.stationRoom a = none →
    exec (.release p a uid) s = .next { s with handed := s.handed.erase (.release p a uid) } ∧
    exec (.cancel p a uid) s = .next { s with handed := s.handed.erase (.cancel p a uid) }) ∧
  ∀ (s : State) (p : SpurIx) (a : Addr) (uid : Uid) (r : RoomIx), s.addressed p a uid → s.quiet → s.slotsAgree →
    (s.station a).kind = .delegate → s.stationRoom a = some r →
    ((s.station a).mic = .onAir →
      (∃ t, exec (.release p a uid) s = .next t ∧ closedWith s t a r .released) ∧
      exec (.cancel p a uid) s = .next { s with handed := s.handed.erase (.cancel p a uid) }) ∧
    ((s.station a).mic = .queued →
      exec (.release p a uid) s = .next { s with handed := s.handed.erase (.release p a uid) } ∧
      ∃ t, exec (.cancel p a uid) s = .next t ∧ (t.station a).mic = .off ∧ (t.station a).stamp = none ∧
        (t.station a).lamp = .off ∧ t.floor = { s.floor with pool := s.floor.pool.filter fun e => e.addr != a } ∧
        (∀ b, b ≠ a → (s.station b).sameFloor (t.station b)) ∧
        (∀ q, (t.spur q).talkSlots = (s.spur q).talkSlots) ∧ t.map = s.map ∧
        (s.hasReportRoom →
          t.reportList = s.reportList ++ [.floor ⟨.removed, some a, some r, .cancelled, none, none⟩])) ∧
    ((s.station a).mic = .off → (s.station a).held = true →
      exec (.release p a uid) s = .next { s with
        handed := s.handed.erase (.release p a uid)
        stations := s.stations.set a { s.station a with held := false }
        lane := s.lane.place (.floor ⟨.heldCleared, some a, some r, .released, none, none⟩) } ∧
      exec (.cancel p a uid) s = .next { s with
        handed := s.handed.erase (.cancel p a uid)
        stations := s.stations.set a { s.station a with held := false }
        lane := s.lane.place (.floor ⟨.heldCleared, some a, some r, .cancelled, none, none⟩) }) ∧
    ((s.station a).mic = .off → (s.station a).held = false →
      exec (.release p a uid) s = .next { s with handed := s.handed.erase (.release p a uid) } ∧
      exec (.cancel p a uid) s = .next { s with handed := s.handed.erase (.cancel p a uid) })

/-- WARNING_PERIOD_START, SPEAK_LIMIT_CLOSE and SILENCE_CLOSE (R98, R99) for an ON_AIR delegate other than its room's
chair: 30 seconds before a limit above 30 it enters its warning period, with its lamp offered when that changed; at
the limit it is closed with TIME, and at the silence timeout with SILENCE. That counts already past them, as a swap
into a room of a lower limit can leave, act in the same way is the model's choice (log 32). -/
def Obligations.SpeakingTimeAndSilenceAct : Prop :=
  ∀ (s : State) (a : Addr) (r : RoomIx), (s.station a).kind = .delegate → (s.station a).mic = .onAir →
    s.stationRoom a = some r → s.isChair r a = false →
    (30 < (s.room r).speakLimit → (s.room r).speakLimit ≤ (s.station a).seconds + 30 →
      (s.station a).seconds < (s.room r).speakLimit → (s.station a).warning = false →
      ∃ t, exec (.warningPeriodStart a) s = .next t ∧ (t.station a).warning = true ∧
        ((s.station a).state = .present → s.overrideActive = false → s.floor.priority.get r = false →
          (t.station a).lamp = .warning) ∧
        t.station a = { s.station a with warning := true, lamp := (t.station a).lamp } ∧
        (∀ b, b ≠ a → t.station b = s.station b) ∧ t = { s with stations := t.stations, spurs := t.spurs } ∧
        ∀ q, (s.spur q).sameInterface (t.spur q) ∧ (t.spur q).talkSlots = (s.spur q).talkSlots) ∧
    (s.slotsAgree → s.quiet → (s.room r).speakLimit ≠ 0 → (s.room r).speakLimit ≤ (s.station a).seconds →
      ∃ t, exec (.speakLimitClose a) s = .next t ∧ closedWith s t a r .time) ∧
    (s.slotsAgree → s.quiet → (s.room r).silenceTimeout ≠ 0 →
      (s.room r).silenceTimeout * 48000 ≤ (s.station a).silence →
      ∃ t, exec (.silenceClose a) s = .next t ∧ closedWith s t a r .silence)

/-- NEXT from the chair of a room that is not under changeover (R91): the head of the queue is granted with reason NEXT
when the count is below max open and its spur has a free slot; otherwise NEXT_REFUSED is placed with EMPTY, AT_LIMIT or
NO_SLOT and nothing else changes. That AT_LIMIT is given when both it and NO_SLOT hold is the model's choice (log 44).
From any other delegate, from one without a room, or under changeover, NEXT is discarded (R83). -/
def Obligations.NextGrantsTheHead : Prop :=
  (∀ (s : State) (p : SpurIx) (a : Addr) (uid : Uid), s.addressed p a uid → (s.station a).kind = .delegate →
    s.stationRoom a = none → exec (.next p a uid) s = .next { s with handed := s.handed.erase (.next p a uid) }) ∧
  ∀ (s : State) (p : SpurIx) (a : Addr) (uid : Uid) (r : RoomIx), s.addressed p a uid → s.quiet →
    (s.station a).kind = .delegate → s.stationRoom a = some r →
    let refused := fun reason => Host.Outcome.next { s with
      handed := s.handed.erase (.next p a uid)
      lane := s.lane.place (.floor ⟨.nextRefused, some a, some r, reason, none, none⟩) }
    (s.underChangeover r = true ∨ s.isChair r a = false →
      exec (.next p a uid) s = .next { s with handed := s.handed.erase (.next p a uid) }) ∧
    (s.underChangeover r = false → s.isChair r a = true →
      (s.head r = none → exec (.next p a uid) s = refused .empty) ∧
      ∀ h, s.head r = some h →
        ((s.room r).maxOpen ≤ s.delegateCount r → exec (.next p a uid) s = refused .atLimit) ∧
        (s.delegateCount r < (s.room r).maxOpen → s.hasFreeTalk (s.station h).spur = false →
          exec (.next p a uid) s = refused .noSlot) ∧
        (s.delegateCount r < (s.room r).maxOpen → s.hasFreeTalk (s.station h).spur = true →
          ∃ t, exec (.next p a uid) s = .next t ∧ (t.station h).mic = .onAir ∧ (t.station h).talk ≠ none ∧
            (t.station h).stamp = some s.floor.grantStamp ∧
            t.floor.pool = s.floor.pool.filter (fun e => e.addr != h) ∧
            (∀ b, b ≠ h → (s.station b).sameFloor (t.station b)) ∧
            (s.hasReportRoom →
              .floor ⟨.granted, some h, some r, .next, some (t.room r).language, none⟩ ∈ t.reportList)))

/-- PRIORITY_PRESS and PRIORITY_RELEASE from the chair of a room (R92, R93, R94). MUTE: an ON_AIR chair sets the
priority-active flag of its room, PRIORITY_ON is placed, every other ON_AIR delegate of the room is offered LAMP MUTED
and keeps its slot, and an OFF chair with a free slot is granted as well. CLEAR: every other delegate of the room is
closed and its queue emptied, the chair takes the floor where a slot is to be had, and no flag is set. While the flag is
set, a press repeats only the chair press; that it does so too in a room whose mode has since become CLEAR, where R94 and
R100 apply the new mode to the next press, is the model's choice (log 61). A release clears a set flag with PRIORITY_OFF and offers every
ON_AIR delegate of the room its floor lamp, the chair among them (log 14), and is discarded when the flag is clear. From a
delegate that is not its room's chair a release is discarded, and so is a press in a room that is not under changeover
(R83). -/
def Obligations.PriorityActsByItsMode : Prop :=
  (∀ (s : State) (p : SpurIx) (a : Addr) (uid : Uid), s.addressed p a uid → (s.station a).kind = .delegate →
    (s.station a).key = true → (∀ r, s.stationRoom a = some r → s.isChair r a = false) →
    exec (.priorityRelease p a uid) s = .next { s with handed := s.handed.erase (.priorityRelease p a uid) } ∧
    ∀ r, s.stationRoom a = some r → s.underChangeover r = false →
      exec (.priorityPress p a uid) s = .next { s with handed := s.handed.erase (.priorityPress p a uid) }) ∧
  ∀ (s : State) (p : SpurIx) (a : Addr) (uid : Uid) (r : RoomIx), s.addressed p a uid → s.quiet →
    (s.station a).key = true → s.stationRoom a = some r → s.isChair r a = true →
    (s.underChangeover r = false → (s.room r).priorityMode = .mute → s.floor.priority.get r = false →
      ((s.station a).mic = .onAir →
        ∃ t, exec (.priorityPress p a uid) s = .next t ∧ t.floor = { s.floor with priority := s.floor.priority.set r true } ∧
          (∀ b, (s.station b).sameFloor (t.station b)) ∧ (∀ q, (t.spur q).talkSlots = (s.spur q).talkSlots) ∧
          (∀ d, d ∈ s.delegates r → (s.station d).state = .present → (t.station d).lamp = .muted) ∧
          (∀ b, b ∉ s.delegates r → b ≠ a → t.station b = s.station b) ∧
          (s.hasReportRoom →
            t.reportList = s.reportList ++ [.floor ⟨.priorityOn, none, some r, .mute, none, none⟩])) ∧
      ((s.station a).mic = .off → (s.station a).talk = none → s.hasFreeTalk p = true →
        ∃ t, exec (.priorityPress p a uid) s = .next t ∧ (t.station a).mic = .onAir ∧ (t.station a).talk ≠ none ∧
          t.floor.priority = s.floor.priority.set r true ∧ ∀ b, b ≠ a → (s.station b).sameFloor (t.station b))) ∧
    (s.underChangeover r = false → s.floor.priority.get r = true →
      ((s.station a).mic = .onAir → ∃ t, exec (.priorityPress p a uid) s = .next t ∧
        onlyLamp s t (.priorityPress p a uid) p a (s.floorLamp a) s.lane) ∧
      ((s.station a).mic = .off → (s.station a).talk = none → s.hasFreeTalk p = true →
        ∃ t, exec (.priorityPress p a uid) s = .next t ∧ (t.station a).mic = .onAir ∧ (t.station a).talk ≠ none ∧
          t.floor.priority = s.floor.priority ∧ (∀ b, b ≠ a → (s.station b).sameFloor (t.station b)) ∧
          (s.hasReportRoom → ∃ c rs, t.reportList = s.reportList ++
            .floor ⟨.granted, some a, some r, .chair, some c, none⟩ :: rs))) ∧
    (s.underChangeover r = false → (s.room r).priorityMode = .clear → s.floor.priority.get r = false → s.slotsAgree →
      ∃ t, exec (.priorityPress p a uid) s = .next t ∧ t.floor.priority = s.floor.priority ∧
        (∀ d, d ∈ s.delegates r → (t.station d).mic = .off ∧ (t.station d).talk = none) ∧
        (∀ e ∈ t.floor.pool, t.stationRoom e.addr ≠ some r) ∧
        ((s.station a).mic = .onAir ∨ s.hasFreeTalk p = true → (t.station a).mic = .onAir)) ∧
    (s.floor.priority.get r = true →
      ∃ t, exec (.priorityRelease p a uid) s = .next t ∧
        t.floor = { s.floor with priority := s.floor.priority.set r false } ∧
        (∀ b, (s.station b).sameFloor (t.station b)) ∧ (∀ q, (t.spur q).talkSlots = (s.spur q).talkSlots) ∧
        (∀ d, d ∈ s.speakers r → (s.station d).state = .present → (t.station d).lamp = t.floorLamp d) ∧
        (∀ b, b ∉ s.speakers r → t.station b = s.station b) ∧
        (s.hasReportRoom →
          t.reportList = s.reportList ++ [.floor ⟨.priorityOff, none, some r, .released, none, none⟩])) ∧
    (s.floor.priority.get r = false →
      exec (.priorityRelease p a uid) s = .next { s with handed := s.handed.erase (.priorityRelease p a uid) })

/-- The FLOOR directives (R96): GRANT_HEAD grants the head of the room's queue and GRANT the
station's own entry, wherever it stands; CLOSE closes an ON_AIR station, chair included; CANCEL removes a request;
CLEAR_QUEUE empties a room's queue; CLOSE_ALL closes every speaker of a room. Each is OK with the addresses acted on in
order. Refused, with nothing changed: an action that is not one of the six, a room or an address out of range, with
BAD_FIELD; an IDLE room, an empty queue for GRANT_HEAD, a station that is not PRESENT, has no room, or is not QUEUED for
GRANT and CANCEL or ON_AIR for CLOSE, with NOT_FOUND; and a grant under changeover, at max open or without a free slot,
with BUSY. -/
def Obligations.FloorDirectivesAct : Prop :=
  (∀ (s : State) (tag : Byte), s.ready →
    let refused := fun c code => exec c s = .next (s.answered 0x10 tag code .nothing)
    let busy := fun r a => s.underChangeover r = true ∨ (s.room r).maxOpen ≤ s.delegateCount r ∨
      s.hasFreeTalk (s.station a).spur = false
    (∀ x b : Byte, 5 < x.toNat → examine 0x10 [x, b] = .refused .badField) ∧
    (∀ b : Byte, 15 < b.toNat → refused (.floorGrantHead tag [b]) .badField ∧
      refused (.floorClearQueue tag [b]) .badField ∧ refused (.floorCloseAll tag [b]) .badField) ∧
    (∀ b : Byte, b = 0 ∨ 192 < b.toNat → refused (.floorGrant tag [b]) .badField ∧
      refused (.floorClose tag [b]) .badField ∧ refused (.floorCancel tag [b]) .badField) ∧
    (∀ r : RoomIx, let b := [BitVec.ofNat 8 r.val]
      (s.active r = false → refused (.floorGrantHead tag b) .notFound ∧ refused (.floorClearQueue tag b) .notFound ∧
        refused (.floorCloseAll tag b) .notFound) ∧
      (s.head r = none → refused (.floorGrantHead tag b) .notFound) ∧
      ∀ a, s.active r = true → s.head r = some a → busy r a → refused (.floorGrantHead tag b) .busy) ∧
    ∀ a : Addr, let b := [BitVec.ofNat 8 (a.val + 1)]
      ((s.station a).state ≠ .present ∨ s.stationRoom a = none → refused (.floorGrant tag b) .notFound ∧
        refused (.floorClose tag b) .notFound ∧ refused (.floorCancel tag b) .notFound) ∧
      ((s.station a).mic ≠ .queued → refused (.floorGrant tag b) .notFound ∧
        refused (.floorCancel tag b) .notFound) ∧
      ((s.station a).mic ≠ .onAir → refused (.floorClose tag b) .notFound) ∧
      ∀ r, (s.station a).state = .present → s.stationRoom a = some r → (s.station a).mic = .queued → busy r a →
        refused (.floorGrant tag b) .busy) ∧
  ∀ (s : State) (tag : Byte), s.ready → s.slotsAgree →
    let answer := fun (t : State) (as : List Addr) => ∃ rs, t.reportList = rs ++ [.result 0x10 tag .ok (.floor as)]
    (∀ (r : RoomIx) (a : Addr), s.head r = some a → s.active r = true → s.underChangeover r = false →
      s.delegateCount r < (s.room r).maxOpen → s.hasFreeTalk (s.station a).spur = true →
      ∃ t, exec (.floorGrantHead tag [BitVec.ofNat 8 r.val]) s = .next t ∧ answer t [a] ∧
        (t.station a).mic = .onAir ∧ (t.station a).talk ≠ none) ∧
    (∀ (r : RoomIx) (a : Addr), (s.station a).mic = .queued → s.stationRoom a = some r →
      s.underChangeover r = false → s.delegateCount r < (s.room r).maxOpen →
      s.hasFreeTalk (s.station a).spur = true →
      ∃ t, exec (.floorGrant tag [BitVec.ofNat 8 (a.val + 1)]) s = .next t ∧ answer t [a] ∧
        (t.station a).mic = .onAir ∧ (t.station a).talk ≠ none) ∧
    (∀ (r : RoomIx) (a : Addr), (s.station a).mic = .onAir → s.stationRoom a = some r →
      ∃ t, exec (.floorClose tag [BitVec.ofNat 8 (a.val + 1)]) s = .next t ∧ answer t [a] ∧
        (t.station a).mic = .off ∧ (t.station a).talk = none ∧
        .floor ⟨.closed, some a, some r, .directive, none, none⟩ ∈ t.reportList) ∧
    (∀ (r : RoomIx) (a : Addr), (s.station a).mic = .queued → s.stationRoom a = some r →
      ∃ t, exec (.floorCancel tag [BitVec.ofNat 8 (a.val + 1)]) s = .next t ∧ answer t [a] ∧
        (t.station a).mic = .off ∧ (∀ e ∈ t.floor.pool, e.addr ≠ a) ∧
        .floor ⟨.removed, some a, some r, .directive, none, none⟩ ∈ t.reportList) ∧
    ∀ r : RoomIx, s.active r = true →
      (∃ t, exec (.floorClearQueue tag [BitVec.ofNat 8 r.val]) s = .next t ∧
        answer t ((s.queue r).map PoolEntry.addr) ∧
        (∀ e ∈ s.queue r, (t.station e.addr).mic = .off) ∧ ∀ e ∈ t.floor.pool, t.stationRoom e.addr ≠ some r) ∧
      ∃ t, exec (.floorCloseAll tag [BitVec.ofNat 8 r.val]) s = .next t ∧ answer t (s.speakers r) ∧
        ∀ a ∈ s.speakers r, (t.station a).mic = .off ∧ (t.station a).talk = none

/-- What the events of the stations, and the closes and warnings of the floor's timers, leave as it was: the links, the
bindings and timings, the lines, sections and walls, the map and every room record but its floor language, the booths'
stored fields, the channels' codes, the mix engine, the override, every record's registry fields, and all of the lane
but its report queue. For the events of a PRESENT station on its own spur. -/
def Obligations.FloorEventsKeepTheSettings : Prop :=
  ∀ (s t : State) (p : SpurIx) (a : Addr) (uid : Uid) (c : Instr), s.addressed p a uid →
    c ∈ stationEvents p a uid ∨ c = .warningPeriodStart a ∨ c = .speakLimitClose a ∨ c = .silenceClose a →
    exec c s = .next t →
    s.sameSettings t ∧ s.sameLane t ∧ s.sameMap t ∧
      (∀ r, t.room r = { s.room r with language := (t.room r).language }) ∧
      (∀ b, (s.station b).sameIdentity (t.station b)) ∧ (∀ q, (s.spur q).sameInterface (t.spur q)) ∧
      (∀ b, (t.booth b).anchor = (s.booth b).anchor ∧ (t.booth b).comprehension = (s.booth b).comprehension ∧
        (t.booth b).outA = (s.booth b).outA ∧ (t.booth b).outB = (s.booth b).outB ∧
        (t.booth b).interlock = (s.booth b).interlock) ∧
      ∀ l, (t.channel l).code = (s.channel l).code

/-! ## Interpretation and listening -/

/-- A CONSOLE_ON for output o of booth b from its console n, which is not on the air and holds no slot; the booth has a
room r, and the output names channel l, which the booth owns. -/
def consolePress (s : State) (p : SpurIx) (a : Addr) (uid : Uid) (b : BoothIx) (n : ConsoleIx) (o : Output)
    (l : ChanIx) (r : RoomIx) : Prop :=
  s.addressed p a uid ∧ (s.station a).kind = .console ∧ (s.station a).booth = some (b, n) ∧ s.standsOn a = none ∧
    (s.station a).talk = none ∧ (s.booth b).room = some r ∧ s.boothRoom b = some r ∧ (s.booth b).output o = some l ∧
    s.owner l = some b

/-- A CONSOLE_ON for output o from a console that stands on the other output of its booth b, which is of number n there
(R120); the booth has a room r, and its outputs name two channels. -/
def consoleSwitch (s : State) (p : SpurIx) (a : Addr) (uid : Uid) (b : BoothIx) (n : ConsoleIx) (o first : Output)
    (r : RoomIx) : Prop :=
  s.addressed p a uid ∧ (s.station a).kind = .console ∧ (s.station a).booth = some (b, n) ∧
    s.standsOn a = some (b, first) ∧ first ≠ o ∧ (s.booth b).room = some r ∧ s.boothRoom b = some r ∧
    (s.booth b).output first ≠ (s.booth b).output o

/-- CONSOLE_ON and CONSOLE_OFF (R77, R116 to R121), with every console OFF for the floor (R76) where a talk slot is freed.
To a free output with a free slot the console takes the lowest free slot and the output, CONSOLE_ON is placed first with
cause PRESS, and the channel is SERVED unless it is DARK or FLOOR_FOLLOW. UNBOUND, NO_ROOM, NO_OUTPUT, LOCKED (a taken
output under LOCKOUT) and NO_SLOT refuse the press with LAMP REFUSED, and nothing else changes. Under TAKEOVER the console
on the output is taken off with CONSOLE_OFF, TAKEOVER, and the presser takes its place, with CONSOLE_ON, TAKEOVER, where a
slot is free or the other's is on the same spur. A console on the air that presses its own output is offered its lamp
again; for the other output it keeps its slot and moves, with CONSOLE_ON, SWITCH, after taking a console off it under
TAKEOVER, or is refused with NO_OUTPUT or LOCKED and offered its lamp. A console on the air that presses off leaves its
output and its slot, with CONSOLE_OFF, RELEASED; one that is not on the air is discarded. The floor state of the stations
that are not queued stays as it was. Where an advance pass follows, that it comes after the console's reports and the
evaluation is the model's choice (log 16). -/
def Obligations.ConsolesComeAndGo : Prop :=
  ∀ (s : State) (p : SpurIx) (a : Addr) (uid : Uid) (b : BoothIx) (n : ConsoleIx) (o : Output) (arg : Byte),
    arg = BitVec.ofNat 8 o.code →
    let press := Instr.consoleOn p a uid arg
    let refused := fun (t : State) (lamp : Lamp) (seat : Option (BoothIx × ConsoleIx)) (reason : Reason) =>
      exec press s = .next t ∧ onlyLamp s t press p a lamp
        (s.lane.place (.booth (.consoleRefused seat a o reason)))
    (∀ l r, consolePress s p a uid b n o l r → (s.booth b).standing o = none → ∀ k,
      (s.spur p).talkSlots.get k = none → (∀ j, j < k → (s.spur p).talkSlots.get j ≠ none) →
      ∃ t, exec press s = .next t ∧ (t.booth b).standing o = some a ∧
        (t.station a).talk = some k ∧ (t.spur p).talkSlots.get k = some a ∧ (t.station a).mic = (s.station a).mic ∧
        (t.station a).envelope = 0 ∧ (∀ c, c ≠ a → (s.station c).sameFloor (t.station c)) ∧
        (∀ q j, (q, j) ≠ (p, k) → (t.spur q).talkSlots.get j = (s.spur q).talkSlots.get j) ∧
        t.floor = s.floor ∧
        ((s.channel l).code ≠ 0 → (s.channel l).code ≠ (s.room r).language → (t.channel l).state = .served) ∧
        (s.hasReportRoom → ∃ rs, t.reportList =
          s.reportList ++ .booth (.consoleOn b n a o p (some k) .press) :: rs)) ∧
    (s.addressed p a uid → (s.station a).kind = .console → s.standsOn a = none →
      ((s.station a).booth = none → ∃ t, refused t .refused none .unbound) ∧
      ((s.station a).booth = some (b, n) →
        ((s.booth b).room = none → ∃ t, refused t .refused (some (b, n)) .noRoom) ∧
        ((s.booth b).room ≠ none → (s.booth b).output o = none →
          ∃ t, refused t .refused (some (b, n)) .noOutput))) ∧
    (∀ l r, consolePress s p a uid b n o l r →
      ((s.booth b).interlock = .lockout → (s.booth b).standing o ≠ none →
        ∃ t, refused t .refused (some (b, n)) .locked) ∧
      (s.hasFreeTalk p = false → (s.booth b).standing o = none ∨ ((s.booth b).interlock = .takeover ∧
          ∀ c, (s.booth b).standing o = some c → (s.station c).spur ≠ p ∨ (s.station c).talk = none) →
        ∃ t, refused t .refused (some (b, n)) .noSlot) ∧
      ∀ c, (s.booth b).interlock = .takeover → (s.booth b).standing o = some c → (s.station c).kind = .console →
        s.hasFreeTalk p = true ∨ ((s.station c).spur = p ∧ (s.station c).talk ≠ none) → s.slotsAgree →
        s.consolesOff →
        ∃ t, exec press s = .next t ∧ (t.booth b).standing o = some a ∧ (t.station a).talk ≠ none ∧
          (t.station c).talk = none ∧ (∀ q k, (t.spur q).talkSlots.get k ≠ some c) ∧
          (t.station a).mic = (s.station a).mic ∧
          (∀ d, d ≠ a → d ≠ c → (s.station d).mic ≠ .queued → (s.station d).sameFloor (t.station d)) ∧
          ((s.channel l).code ≠ 0 → (s.channel l).code ≠ (t.room r).language → (t.channel l).state = .served) ∧
          (∀ m, (s.station c).booth = some (b, m) → s.lane.reports.length + 2 ≤ s.lane.reportRoom →
            ∃ k rs, t.reportList = s.reportList ++ .booth (.consoleOff b m c o .takeover) ::
              .booth (.consoleOn b n a o p (some k) .takeover) :: rs)) ∧
    (s.addressed p a uid → (s.station a).kind = .console → s.standsOn a = some (b, o) →
      ∃ t, exec press s = .next t ∧ onlyLamp s t press p a (s.consoleLamp a) s.lane) ∧
    (∀ first r, consoleSwitch s p a uid b n o first r →
      ((s.booth b).output o = none → ∃ t, refused t (s.consoleLamp a) (some (b, n)) .noOutput) ∧
      ((s.booth b).output o ≠ none → (s.booth b).interlock = .lockout → (s.booth b).standing o ≠ none →
        ∃ t, refused t (s.consoleLamp a) (some (b, n)) .locked) ∧
      ∀ l, (s.booth b).output o = some l → s.owner l = some b →
        (s.booth b).interlock = .takeover ∨ (s.booth b).standing o = none → s.slotsAgree → s.consolesOff →
        (∀ c, (s.booth b).standing o = some c → (s.station c).kind = .console ∧ c ≠ a) →
        ∃ t, exec press s = .next t ∧ (t.booth b).standing o = some a ∧ (t.booth b).standing first = none ∧
          (t.station a).talk = (s.station a).talk ∧ (t.station a).mic = .off ∧
          (∀ c, (s.booth b).standing o = some c → (t.station c).talk = none) ∧
          (∀ d, (s.station d).mic ≠ .queued → (s.booth b).standing o ≠ some d →
            (s.station d).sameFloor (t.station d)) ∧
          ((s.channel l).code ≠ 0 → (s.channel l).code ≠ (t.room r).language → (t.channel l).state = .served) ∧
          (∀ m, (s.booth b).output first = some m → s.owner m = some b → (t.channel m).state ≠ .served) ∧
          ((s.booth b).standing o = none → s.hasReportRoom → ∃ rs, t.reportList = s.reportList ++
            .booth (.consoleOn b n a o p (s.station a).talk .switch) :: rs) ∧
          ∀ c m, (s.booth b).standing o = some c → (s.station c).booth = some (b, m) →
            s.lane.reports.length + 2 ≤ s.lane.reportRoom → ∃ rs, t.reportList = s.reportList ++
              .booth (.consoleOff b m c o .takeover) ::
                .booth (.consoleOn b n a o p (s.station a).talk .switch) :: rs) ∧
    (s.addressed p a uid → (s.station a).kind = .console → s.standsOn a = some (b, o) → s.slotsAgree →
      s.consolesOff → (s.station a).booth = some (b, n) →
      ∃ t, exec (.consoleOff p a uid) s = .next t ∧ (t.booth b).standing o = none ∧ (t.station a).talk = none ∧
        (∀ q k, (t.spur q).talkSlots.get k ≠ some a) ∧
        (∀ c, c ≠ a → (s.station c).mic ≠ .queued → (s.station c).sameFloor (t.station c)) ∧
        (s.hasReportRoom → ∃ rs, t.reportList =
          s.reportList ++ .booth (.consoleOff b n a o .released) :: rs)) ∧
    (s.addressed p a uid → (s.station a).kind = .console → s.standsOn a = none →
      exec (.consoleOff p a uid) s = .next { s with handed := s.handed.erase (.consoleOff p a uid) })

/-- BOOTH_SET (R124, R125) and CHANNEL_SET (R126): the fields carried are written and the others kept, the other
booths' stored fields and consoles and the other channels' codes stay, and the RESULT carries the entry as it then
stands. A BOOTH_SET that writes a change takes off a console whose output is gone, with OUTPUT_REMOVED, and, in a
booth left without a room, one on either output, with DARK, and frees its slot; every other console stays on its
output, whatever channel, anchor or interlock it is given, and serves the channel that the output now names, while a
channel given up is DARK without a room. A CHANNEL_SET takes no console off, and code 0 makes its channel DARK. That
the comprehension set is kept, compared and given back in the order carried is the model's choice (log 47). An entry
that would break the rules of R124 is refused with BAD_FIELD, and a channel of another booth with CONFLICT. A
directive that writes no change is answered and changes nothing. -/
def Obligations.BoothsAndChannelsAreWritten : Prop :=
  ∀ (s : State) (tag : Byte), s.ready →
    (∀ (b : BoothIx) (anchor : Option (Option SecIx)) (comp : Option (List Lang))
        (outA outB : Option (Option ChanIx)) (lock : Option Interlock), (∀ c ∈ comp, comprehensionOk c = true) →
      let x := s.booth b
      let y := { x with
        anchor := anchor.getD x.anchor, comprehension := comp.getD x.comprehension, outA := outA.getD x.outA,
        outB := outB.getD x.outB, interlock := lock.getD x.interlock }
      let bad := (y.anchor ≠ none ∧ (y.outA = none ∨ y.comprehension = [])) ∨ (y.outB ≠ none ∧ y.outA = none) ∨
        (y.outA ≠ none ∧ y.outA = y.outB)
      let taken := ∃ l c, c ≠ b ∧ (outA = some (some l) ∨ outB = some (some l)) ∧
        ((s.booth c).outA = some l ∨ (s.booth c).outB = some l)
      let cmd := Instr.boothSet tag (Order.boothSet b anchor comp outA outB lock).payload
      (bad → exec cmd s = .next (s.answered 0x12 tag .badField .nothing)) ∧
      (¬bad → taken → exec cmd s = .next (s.answered 0x12 tag .conflict .nothing)) ∧
      (¬bad → ¬taken → y = x → exec cmd s = .next (s.answered 0x12 tag .ok (.booth x))) ∧
      (¬bad → ¬taken →
        ∃ t, exec cmd s = .next t ∧ (t.booth b).anchor = y.anchor ∧ (t.booth b).comprehension = y.comprehension ∧
          (t.booth b).outA = y.outA ∧ (t.booth b).outB = y.outB ∧ (t.booth b).interlock = y.interlock ∧
          (∀ c, c ≠ b → (t.booth c).anchor = (s.booth c).anchor ∧ (t.booth c).outA = (s.booth c).outA ∧
            (t.booth c).comprehension = (s.booth c).comprehension ∧ (t.booth c).interlock = (s.booth c).interlock ∧
            (t.booth c).outB = (s.booth c).outB ∧ (t.booth c).onA = (s.booth c).onA ∧
            (t.booth c).onB = (s.booth c).onB) ∧
          (y ≠ x → derivedFieldsStand t ∧ t.oneVoice ∧
            ∀ o,
              (y.output o ≠ none → (t.booth b).room ≠ none → (t.booth b).standing o = x.standing o) ∧
              (y.output o = none ∨ (t.booth b).room = none → (t.booth b).standing o = none ∧
                ∀ c, x.standing o = some c → (s.station c).kind = .console →
                  (s.slotsAgree → s.consolesOff →
                    (t.station c).talk = none ∧ ∀ q k, (t.spur q).talkSlots.get k ≠ some c) ∧
                  ∀ n, (s.station c).booth = some (b, n) → s.lane.reports.length ≤ 61 →
                    .booth (.consoleOff b n c o (if y.output o = none then .outputRemoved else .dark)) ∈
                      t.reportList)) ∧
          (∀ l, (t.channel l).code = (s.channel l).code) ∧ s.sameSettings t ∧ s.sameMap t ∧
          ∃ rs, t.reportList = rs ++ [.result 0x12 tag .ok (.booth (t.booth b))])) ∧
    ∀ l : ChanIx,
      (∀ d, d = none ∨ d = some (s.channel l).code →
        exec (.channelSet tag (Order.channelSet l d).payload) s = .next (s.answered 0x14 tag .ok
          (.channel (s.channel l).code (s.owner l) (s.channel l).room (s.channel l).state (s.channel l).parked))) ∧
      ∀ c, c ≠ (s.channel l).code →
        ∃ t, exec (.channelSet tag (Order.channelSet l (some c)).payload) s = .next t ∧ (t.channel l).code = c ∧
          (∀ m, m ≠ l → (t.channel m).code = (s.channel m).code) ∧ derivedFieldsStand t ∧ t.oneVoice ∧
          s.sameSettings t ∧ t.map = s.map ∧
          t.floor = s.floor ∧ (∀ a, (s.station a).sameIdentity (t.station a) ∧ (s.station a).sameFloor (t.station a)) ∧
          (∀ b, (t.booth b).anchor = (s.booth b).anchor ∧ (t.booth b).comprehension = (s.booth b).comprehension ∧
            (t.booth b).outA = (s.booth b).outA ∧ (t.booth b).outB = (s.booth b).outB ∧
            (t.booth b).interlock = (s.booth b).interlock ∧ (t.booth b).onA = (s.booth b).onA ∧
            (t.booth b).onB = (s.booth b).onB) ∧
          ∃ rs, t.reportList = rs ++ [.result 0x14 tag .ok
            (.channel c (t.owner l) (t.channel l).room (t.channel l).state (t.channel l).parked)]

/-- SELECT from a PRESENT delegate (R23, R133, R134, R137 to R141): its listen code is written; it resolves to its
room's floor for code 0, to the channel of its room that carries the code, or else to the floor with the fallback mark;
its spur's table holds every held id that is still in demand in the slot it had, and no id twice; the ids newly in demand
(feeds, then floors, then channels, each ascending) take the free slots in ascending order, those left over are the
unserved set, and LISTEN_SHORTAGE is placed when that set changed; the station plays the slot of its id, or its room's
floor with the degraded flag when its channel has none, or silence with the flag when that has none either, and a TUNE
with slot and flag waits for it when either changed. Other spurs' tables and other stations' resolutions stay, and nothing
else of the station or the floor changes. -/
def Obligations.SelectRetunesTheSeat : Prop :=
  ∀ (s : State) (p : SpurIx) (a : Addr) (uid : Uid) (c : Lang), s.addressed p a uid →
    (s.station a).kind = .delegate →
    ∃ t, exec (.select p a uid (BitVec.ofNat 8 c.val)) s = .next t ∧ (t.station a).listen = c ∧
      (s.stationRoom a = none → (t.station a).resolved = none ∧ (t.station a).listenSlot = none) ∧
      (∀ r, s.stationRoom a = some r → c = 0 → (t.station a).resolved = some ⟨.floor r, false⟩) ∧
      (∀ r l, s.stationRoom a = some r → c ≠ 0 →
        ((s.channel l).code = c ∧ (s.channel l).room = some r ∧ (s.channel l).state ≠ .dark ∧
          (s.channel l).parked = false) → s.oneVoice → (t.station a).resolved = some ⟨.channel l, false⟩) ∧
      (∀ r, s.stationRoom a = some r → c ≠ 0 →
        (∀ l, (s.channel l).code = c → (s.channel l).room = some r → (s.channel l).state ≠ .dark →
          (s.channel l).parked = true) → (t.station a).resolved = some ⟨.floor r, true⟩) ∧
      (∀ k x n, (s.spur p).listenSlots.get k = some (x, n) →
        (t.spur p).listenSlots.get k = some (x, t.demand (t.presentOn p) x) ∨ t.demand (t.presentOn p) x = 0) ∧
      ((∀ j k x m n, (s.spur p).listenSlots.get j = some (x, m) → (s.spur p).listenSlots.get k = some (x, n) → j = k) →
        ∀ j k x m n, (t.spur p).listenSlots.get j = some (x, m) → (t.spur p).listenSlots.get k = some (x, n) → j = k) ∧
      (let need := t.demand (t.presentOn p)
       let fresh := ((List.finRange 8).map ChanId.feed ++ (List.finRange 16).map ChanId.floor ++
         (List.finRange 12).map ChanId.channel).filter fun x =>
           need x != 0 && (List.finRange 16).all fun k => ((s.spur p).listenSlots.get k).map Prod.fst != some x
       let vacant := (List.finRange 16).filter fun k => match (s.spur p).listenSlots.get k with
         | some (x, _) => need x == 0
         | none => true
       (∀ (i : Nat) x k, fresh[i]? = some x → vacant[i]? = some k → (t.spur p).listenSlots.get k = some (x, need x)) ∧
       (∀ (i : Nat) k, fresh[i]? = none → vacant[i]? = some k → (t.spur p).listenSlots.get k = none) ∧
       (t.spur p).unserved = fresh.drop vacant.length) ∧
      t.lane = (if (t.spur p).unserved = (s.spur p).unserved then s.lane
        else s.lane.place (.station (.listenShortage p (t.spur p).unserved))) ∧
      (∀ x k n, (∀ j, j < k → ((t.spur p).listenSlots.get j).map Prod.fst ≠ some x) →
        (t.spur p).listenSlots.get k = some (x, n) →
        (∀ mark, (t.station a).resolved = some ⟨x, mark⟩ → (∀ y, x ≠ .feed y) →
          (t.station a).listenSlot = some k ∧ (t.station a).degraded = (decide (∃ r, x = .floor r) && mark)) ∧
        ∀ l r, (t.station a).resolved = some ⟨.channel l, false⟩ → s.stationRoom a = some r → x = .floor r →
          (∀ j, ((t.spur p).listenSlots.get j).map Prod.fst ≠ some (.channel l)) →
          (t.station a).listenSlot = some k ∧ (t.station a).degraded = true) ∧
      (∀ r, s.stationRoom a = some r →
        (∀ j, ((t.spur p).listenSlots.get j).map Prod.fst ≠ some (.floor r)) →
        (∀ y, (t.station a).resolved.map Resolved.chan = some y →
          ∀ j, ((t.spur p).listenSlots.get j).map Prod.fst ≠ some y) →
        (t.station a).listenSlot = none ∧ (t.station a).degraded = true) ∧
      ((t.station a).listenSlot ≠ (s.station a).listenSlot ∨ (t.station a).degraded ≠ (s.station a).degraded →
        .to a (.tune (t.station a).listenSlot (t.station a).degraded) ∈ (t.spur p).queue ∨
        (t.spur p).hold = some (.to a (.tune (t.station a).listenSlot (t.station a).degraded)) ∨
        (a, .tune) ∈ (t.spur p).marks) ∧
      (∀ q, q ≠ p → t.spur q = s.spur q) ∧ (∀ b, b ≠ a → (t.station b).resolved = (s.station b).resolved) ∧
      (∀ b, (s.station b).sameFloor (t.station b)) ∧ t.floor = s.floor ∧ t.booths = s.booths ∧
      t.channels = s.channels ∧ t.map = s.map

/-! ## The mix engine -/

/-- n over d to the nearest whole number, halves toward the higher (R152, R155), is x. -/
def nearest (n d x : Int) : Prop := 2 * d * x ≤ 2 * n + d ∧ 2 * n + d < 2 * d * (x + 1)

/-- The clamp of R153 on a value acts: it lies outside the sample range. -/
def clips (x : Int) : Prop := x < -8388608 ∨ 8388607 < x

/-- In s, the console that stands on the output of channel l gives the unclamped sample x: its talk-slot sample times the
factor of its trim over 2^16 (R155). -/
def consoleSample (s : State) (l : ChanIx) (x : Int) : Prop :=
  ∃ b o c k, s.owner l = some b ∧ (s.booth b).output o = some l ∧
    (o = .b → (s.booth b).output .a ≠ some l) ∧ (s.booth b).standing o = some c ∧ (s.station c).talk = some k ∧
    nearest ((s.spur (s.station c).spur).talkIn.get k * gain (s.station c).trim.toNat) 65536 x

/-- Station a contributes to room r in s (R147): it is ON_AIR in that room, override is not active, and while the room's
priority-active flag is set it is the room's chair. -/
def contributes (s : State) (r : RoomIx) (a : Addr) : Bool :=
  (s.station a).mic == .onAir && s.stationRoom a == some r && !s.overrideActive &&
    (!s.floor.priority.get r || s.isChair r a)

/-- The product of station a in s (R151): the sample of its talk slot, 0 without one, times the factor of its trim. -/
def stationProduct (s : State) (a : Addr) : Int :=
  match (s.station a).talk with
  | some k => (s.spur (s.station a).spur).talkIn.get k * gain (s.station a).trim.toNat
  | none => 0

/-- The sum of room r in s (R151): the products of its contributing stations, and that of its inject input, if it names
one, with the factor of its inject code. -/
def roomSum (s : State) (r : RoomIx) : Int :=
  (((List.finRange 192).filter (contributes s r)).map (stationProduct s)).sum +
    match (s.room r).inject with
    | some i => s.trunk.inject.get i * gain (s.room r).injectCode.toNat
    | none => 0

/-- In s, with applied code c, the sum of room r gives the unclamped floor sample x (R152). -/
def floorValue (s : State) (r : RoomIx) (c : Nat) (x : Int) : Prop := nearest (roomSum s r * gain c) 4294967296 x

/-- FRAME_COMPUTATION when nothing is due (R145, R147 to R149, R151 to R156): every target is 0 for an id that is
IDLE, forced, at master 0, muted or under override, and else the master code less the attenuation that the table of
R147 gives for the number of its contributing stations, at least 1; every applied code moves one code toward it; an
IDLE id's floor is 0, and an ACTIVE id's, without override, is the sum of the products of its contributing stations
and its inject input (R151) times the factor of the new applied code over 2^32, to the nearest whole sample with
halves upward, clamped to the sample range. Without override, a channel that is DARK or parked gives 0, one that is
SERVED its console's sample times the trim's factor over 2^16, rounded and clamped alike, and any other the floor of
its room; a booth feed is 0, the floor of the booth's room or the output of its relay channel; and a clip count goes
up by one, stopping at 65,535, when the clamp of its floor or of a SERVED channel of its room acted, and else stays.
The floor, the lines, the registry's fields and every table but the mix engine's stay. -/
def Obligations.FrameComputationRampsAndMixes : Prop :=
  ∀ s : State, s.dueStep = none → ∃ t, exec .frameComputation s = .next t ∧
    (∀ r,
      (s.active r = false ∨ s.forced r = true ∨ (s.room r).master = 0 ∨ s.overrideActive = true ∨
          (∃ i, s.map.live.get i = some r ∧ s.muteStands i = true) → t.mix.target.get r = 0) ∧
      (s.active r = true → s.forced r = false → (s.room r).master ≠ 0 → s.overrideActive = false →
          (∀ i, s.map.live.get i = some r → s.muteStands i = false) →
        ∀ n att, n = ((List.finRange 192).filter (contributes s r)).length →
          [0, 0, 6, 10, 12, 14, 16, 17, 18, 19][n]? = some att →
          t.mix.target.get r = max 1 ((s.room r).master.toNat - att)) ∧
      (s.mix.applied.get r < t.mix.target.get r → t.mix.applied.get r = s.mix.applied.get r + 1) ∧
      (t.mix.target.get r < s.mix.applied.get r → t.mix.applied.get r + 1 = s.mix.applied.get r) ∧
      (s.mix.applied.get r = t.mix.target.get r → t.mix.applied.get r = s.mix.applied.get r) ∧
      (s.active r = false → t.mix.floors.get r = 0) ∧
      (s.active r = true → s.overrideActive = false → ∃ x : Int,
        floorValue s r (t.mix.applied.get r) x ∧ t.mix.floors.get r = max (-8388608) (min 8388607 x))) ∧
    (s.overrideActive = false →
      (∀ l,
        ((s.channel l).state = .dark ∨ (s.channel l).parked = true → t.mix.channels.get l = 0) ∧
        ((s.channel l).parked = false → (s.channel l).state = .served → ∀ x, consoleSample s l x →
          t.mix.channels.get l = max (-8388608) (min 8388607 x)) ∧
        ((s.channel l).parked = false → (s.channel l).state = .floorFollow ∨ (s.channel l).state = .idle →
          ∀ r, (s.channel l).room = some r → t.mix.channels.get l = t.mix.floors.get r)) ∧
      (∀ b,
        ((s.booth b).input = .nothing → t.mix.feeds.get b = 0) ∧
        ((s.booth b).input = .floor → ∀ r, (s.booth b).room = some r → t.mix.feeds.get b = t.mix.floors.get r) ∧
        ∀ l, (s.booth b).input = .relay l → t.mix.feeds.get b = t.mix.channels.get l) ∧
      ∀ r,
        ((∃ x, s.active r = true ∧ floorValue s r (t.mix.applied.get r) x ∧ clips x) ∨
            (∃ l x, (s.channel l).room = some r ∧ (s.channel l).state = .served ∧ (s.channel l).parked = false ∧
              consoleSample s l x ∧ clips x) →
          t.mix.clip.get r = min (s.mix.clip.get r + 1) 65535) ∧
        ((∀ x, s.active r = true → floorValue s r (t.mix.applied.get r) x → ¬clips x) →
          (∀ l x, (s.channel l).room = some r → (s.channel l).state = .served → (s.channel l).parked = false →
            consoleSample s l x → ¬clips x) → t.mix.clip.get r = s.mix.clip.get r)) ∧
    t = { s with stations := t.stations, mix := t.mix, map := { s.map with met := t.map.met } } ∧
    ∀ a, t.station a = { s.station a with envelope := (t.station a).envelope, silence := (t.station a).silence }

/-- While override is active, no delegate or console audio reaches any room floor output, channel output or booth feed
(R158): two states in which nothing is due, and that agree on inject input 0, on the override code and on the live map
compute the same floors, channels and feeds, whatever else differs; and every one of them is the override sample, or 0
for the floor of an IDLE id. When its clamp acts, the clip count of every ACTIVE id goes up by one, stopping at
65,535, and every other clip count stays (R154). -/
def Obligations.OverrideShutsOutEveryMicrophone : Prop :=
  (∀ s s' t t' : State, s.dueStep = none → s'.dueStep = none → s.overrideActive = true → s'.overrideActive = true →
    s.trunk.inject.get 0 = s'.trunk.inject.get 0 → s.override.code = s'.override.code → s.map.live = s'.map.live →
    exec .frameComputation s = .next t → exec .frameComputation s' = .next t' →
    t.mix.floors = t'.mix.floors ∧ t.mix.channels = t'.mix.channels ∧ t.mix.feeds = t'.mix.feeds) ∧
  ∀ s t : State, s.dueStep = none → s.overrideActive = true → exec .frameComputation s = .next t → ∃ x : Int,
    65536 * x ≤ s.trunk.inject.get 0 * gain s.override.code.toNat + 32768 ∧
    s.trunk.inject.get 0 * gain s.override.code.toNat + 32768 < 65536 * (x + 1) ∧
    (∀ r, t.mix.floors.get r = if s.active r then max (-8388608) (min 8388607 x) else 0) ∧
    (∀ l, t.mix.channels.get l = max (-8388608) (min 8388607 x)) ∧
    (∀ b, t.mix.feeds.get b = max (-8388608) (min 8388607 x)) ∧
    ∀ r,
      (s.active r = true → clips x → t.mix.clip.get r = min (s.mix.clip.get r + 1) 65535) ∧
      (s.active r = false ∨ ¬clips x → t.mix.clip.get r = s.mix.clip.get r)

/-- The factor table (R146) and the level table (R162) are rounded as those rules say, halves upward: for a code c from 1
to 255 the factor G is the whole number with G − 1/2 ≤ 65,536 × 10^((c − 200)/40) < G + 1/2, and for d from 0 to 96 the
level L the one with L − 1/2 ≤ 8,388,608 × 10^(−d/20) < L + 1/2, both written without fractions; code 0 has factor 0. -/
def Obligations.GainAndLevelTablesAreRounded : Prop :=
  gain 0 = 0 ∧
  (∀ c, 1 ≤ c → c ≤ 255 →
    1 ≤ gain c ∧ (2 * gain c - 1) ^ 40 * 10 ^ 200 ≤ (2 * 65536) ^ 40 * 10 ^ c ∧
      (2 * 65536) ^ 40 * 10 ^ c < (2 * gain c + 1) ^ 40 * 10 ^ 200) ∧
  ∀ d, d ≤ 96 →
    1 ≤ silenceLevel d ∧ (2 * silenceLevel d - 1) ^ 20 * 10 ^ d ≤ (2 * 8388608) ^ 20 ∧
      (2 * 8388608) ^ 20 < (2 * silenceLevel d + 1) ^ 20 * 10 ^ d

/-- The envelope (R160) of a station that holds a talk slot is, after each computation made when nothing is due, the
larger of the magnitude of its sample and the old envelope less its 1,024th part rounded down, so an envelope of 1,024
or more never falls below 1,023; a station without a slot keeps its envelope. The silence frames (R99) of an ON_AIR
delegate other than its room's chair go up by one, stopping at 12,240,000, when the new envelope is below the level of
the room's threshold, and else return to 0; those of every other station stay. -/
def Obligations.EnvelopesFollowTheTalkSlots : Prop :=
  ∀ s : State, s.dueStep = none → ∃ t, exec .frameComputation s = .next t ∧
    (∀ a k, (s.station a).talk = some k →
      (t.station a).envelope = max (((s.spur (s.station a).spur).talkIn.get k).natAbs)
        ((s.station a).envelope - (s.station a).envelope / 1024) ∧
      (1023 ≤ (s.station a).envelope → 1023 ≤ (t.station a).envelope)) ∧
    (∀ a, (s.station a).talk = none → (t.station a).envelope = (s.station a).envelope) ∧
    (∀ a r, (s.station a).mic = .onAir → s.stationRoom a = some r → s.isChair r a = false →
      ((t.station a).envelope < silenceLevel (s.room r).silenceThreshold →
        (t.station a).silence = min ((s.station a).silence + 1) 12240000) ∧
      (silenceLevel (s.room r).silenceThreshold ≤ (t.station a).envelope → (t.station a).silence = 0)) ∧
    ∀ a, (s.station a).mic ≠ .onAir ∨ s.stationRoom a = none ∨ (∃ r, s.isChair r a = true) →
      (t.station a).silence = (s.station a).silence

/-! ## Emergency announcement -/

/-- ANNOUNCE (R167 to R170): the override code carried is written and the directive source takes the state; when the
source does not change nothing else does; when it does, override START, END or CHANGED is placed with cause DIRECTIVE,
before the RESULT, with the source set as it then stands; a START mutes the lamp of every speaker and of every console on
the air, and an END gives each the lamp its standing gives (R169, R170). Nothing else changes. The RESULT carries the
source and the code as they then stand, whether override is active (R165), and the numbers of the OVERRIDE lines with
debounced state active, ascending. A state that is neither ON nor OFF is refused with BAD_FIELD, with or without a code,
and nothing is written. -/
def Obligations.AnnounceSetsTheDirectiveSource : Prop :=
  ∀ (s : State) (tag : Byte) (on : Bool) (code : Option Byte), s.ready →
    s.overrideLines.Pairwise (· < ·) ∧
    (∀ l, l ∈ s.overrideLines ↔ (s.line l).fn = .override ∧ (s.line l).debounced = true) ∧
    (s.overrideActive = true ↔ s.override.source = true ∨ s.overrideLines ≠ []) ∧
    (s.override.source = on →
      exec (.announce tag (Order.announce on code).payload) s = .next ({ s with
        override := ⟨on, code.getD s.override.code⟩ }.answered 0x15 tag .ok
        (.announce on (code.getD s.override.code) s.overrideActive s.overrideLines))) ∧
    (s.override.source ≠ on →
      ∃ t, exec (.announce tag (Order.announce on code).payload) s = .next t ∧
        t = { s with
          override := ⟨on, code.getD s.override.code⟩, stations := t.stations, spurs := t.spurs, lane := t.lane } ∧
        overrideLampsFollow s t ∧
        t.reportList = s.reportList ++
          [.override (.sources (if on then (if s.overrideLines = [] then .start else .changed) else
              (if s.overrideLines = [] then .stop else .changed)) .directive none on s.overrideLines
              (code.getD s.override.code)),
            .result 0x15 tag .ok (.announce on (code.getD s.override.code)
              (on || !s.overrideLines.isEmpty) s.overrideLines)]) ∧
    ∀ b : Byte, 1 < b.toNat →
      exec (.announce tag (b :: masked [code.map fun c => [c]])) s = .next (s.answered 0x15 tag .badField .nothing)

/-! ## The control lane -/

/-- LANE_BYTE and FRAME_TIMEOUT (R175 to R179), with the trunk UP and no gap timeout due. A byte taken is no longer among
those that TRUNK_FRAME_RECEIVE has handed on. In WAIT_START a start byte begins
a directive, and any other byte is counted as stray; KIND and TAG are stored; a length above 60 is a length fault; the
check byte sends a directive whose sum is 0 to the queue, or to the overrun record when 8 wait, and discards any other
with FRAME_ERROR, CHECK. A gap count of 9 inside a directive discards it with FRAME_TIMEOUT. -/
def Obligations.LaneBytesAssembleDirectives : Prop :=
  ∀ (s : State) (x : Byte), s.trunk.link.up = true →
    let a := s.lane.assembly
    let rest := s.handed.erase (.laneByte x)
    (s.gapDue = false →
      (a.state = .waitStart → x = 0xA5 → exec (.laneByte x) s = .next { s with
        handed := rest
        lane := { s.lane with assembly := ⟨.kind, 0, 0, 0, [], 0, 0, 1⟩ } }) ∧
      (a.state = .waitStart → x ≠ 0xA5 → exec (.laneByte x) s = .next { s with
        handed := rest
        lane := { s.lane with stray := min (s.lane.stray + 1) 65535 } }) ∧
      (a.state = .kind → exec (.laneByte x) s = .next { s with
        handed := rest
        lane := { s.lane with assembly := { a with state := .tag, kind := x, gap := 0, taken := a.taken + 1 } } }) ∧
      (a.state = .tag → exec (.laneByte x) s = .next { s with
        handed := rest
        lane := { s.lane with assembly := { a with state := .length, tag := x, gap := 0, taken := a.taken + 1 } } }) ∧
      (a.state = .length → x.toNat ≤ 60 → exec (.laneByte x) s = .next { s with
        handed := rest
        lane := { s.lane with assembly := { a with
          state := if x = 0 then .check else .payload, length := x, expected := x.toNat, gap := 0,
          taken := a.taken + 1 } } }) ∧
      (a.state = .length → 60 < x.toNat → exec (.laneByte x) s = .next { s with
        handed := rest
        lane := { s.lane with assembly := Assembly.initial }.place (.lane (.frameError .length)) }) ∧
      (∀ n, a.state = .payload → a.expected = n + 1 → exec (.laneByte x) s = .next { s with
        handed := rest
        lane := { s.lane with assembly := { a with
          state := if n = 0 then .check else .payload, payload := a.payload ++ [x], expected := n, gap := 0,
          taken := a.taken + 1 } } }) ∧
      (a.state = .check → a.payload.foldl (· + ·) (a.kind + a.tag + a.length) + x ≠ 0 →
        exec (.laneByte x) s = .next { s with
          handed := rest
          lane := { s.lane with assembly := Assembly.initial }.place (.lane (.frameError .check)) }) ∧
      (a.state = .check → a.payload.foldl (· + ·) (a.kind + a.tag + a.length) + x = 0 →
        (s.lane.directives.length < 8 → exec (.laneByte x) s = .next { s with
          handed := rest
          lane := { s.lane with
            assembly := Assembly.initial, directives := s.lane.directives ++ [⟨a.kind, a.tag, a.payload⟩] } }) ∧
        (8 ≤ s.lane.directives.length → s.lane.overrun = none → exec (.laneByte x) s = .next { s with
          handed := rest
          lane := { s.lane with assembly := Assembly.initial, overrun := some ⟨1, a.tag, a.tag⟩ } }) ∧
        ∀ o, 8 ≤ s.lane.directives.length → s.lane.overrun = some o → exec (.laneByte x) s = .next { s with
          handed := rest
          lane := { s.lane with
            assembly := Assembly.initial, overrun := some ⟨min (o.count + 1) 255, o.first, a.tag⟩ } })) ∧
    (a.state ≠ .waitStart → 9 ≤ a.gap → exec .frameTimeout s = .next { s with
      lane := { s.lane with assembly := Assembly.initial }.place (.lane (.frameTimeout a.taken
        (if a.state = AssemblyState.kind ∨ a.state = AssemblyState.tag then none else some a.tag))) })

/-- The state u in which a waiting directive d has been carried out, after R182 steps 4 and 5 and R180: its RESULT stands
behind every report, the directives behind it are those that wait, the overrun record o is emptied, and DIRECTIVE_OVERRUN
is placed when it was not empty. -/
def finished (u : State) (d : Directive) (ds : List Directive) (code : ResultCode) (data : ResultData)
    (o : Option Overrun) : State :=
  let lane : LaneUnit := { u.lane with
    directives := ds, overrun := none, reserved := false,
    reports := u.lane.reports ++ [⟨.result d.kind d.tag code data, false⟩] }
  match o with
  | none => { u with lane := lane }
  | some x => { u with lane := lane.place (.lane (.directiveOverrun x.count x.first x.latest)) }

/-- DIRECTIVE_EXECUTION (R180, R182, R183): a head that finds fewer than 2 free report entries waits, and nothing
happens; otherwise it is executed and leaves the queue, the others keep their order, the overrun record is emptied,
and the last report is its RESULT, followed by DIRECTIVE_OVERRUN where directives had been discarded and an entry is
free for it. A payload that the examination refuses changes nothing else and is answered with that code; an order is
carried out with the RESULT's entry reserved, and its code and data are the RESULT's; a code other than OK and
OK_CLAMPED comes without data and changes nothing else. For a head that is no WARM_RESTART that restarts. -/
def Obligations.WaitingDirectivesAreExecutedInOrder : Prop :=
  ∀ (s : State) (d : Directive) (ds : List Directive), s.lane.directives = d :: ds →
    (62 < s.lane.reports.length → exec .directiveExecution s = .next s) ∧
    (s.lane.reports.length ≤ 62 → d.kind ≠ 0x02 ∨ d.payload ≠ [] →
      ∃ t code data rs, exec .directiveExecution s = .next t ∧ t.lane.directives = ds ∧ t.lane.overrun = none ∧
        t.lane.reserved = false ∧ t.lane.assembly = s.lane.assembly ∧
        (s.lane.overrun = none → t.reportList = rs ++ [.result d.kind d.tag code data]) ∧
        (∀ o, s.lane.overrun = some o → t.reportList = rs ++ [.result d.kind d.tag code data] ++
          if rs.length < 63 then [.lane (.directiveOverrun o.count o.first o.latest)] else []) ∧
        (knownKind d.kind = false → code = .badField) ∧
        (∀ c, examine d.kind d.payload = .refused c →
          code = c ∧ data = .nothing ∧ t = finished s d ds c .nothing s.lane.overrun) ∧
        ∀ o, examine d.kind d.payload = .order o →
          let r := o.run { s with lane := { s.lane with reserved := true } }
          code = r.code ∧ data = r.data ∧ t = finished r.state d ds r.code r.data s.lane.overrun ∧
          (r.code ≠ .ok → r.code ≠ .okClamped →
            data = .nothing ∧ t = finished s d ds r.code .nothing s.lane.overrun))

/-- A room record with its chair checked at a warm restart (R75, step 3 of R59): every station record is then EMPTY, so the
chair is kept where the first binding that names its address has a section that the map m puts in the room. -/
def boundChair (s : State) (m : RoomMap) (r : RoomIx) (x : Room) : Room :=
  { x with chair := x.chair.filter fun a =>
      ((s.bindings.find? fun b => b.addr == a).bind Binding.sec).any fun i => m.get i == some r }

/-- The room records that a warm restart leaves when the map m takes the place of the live map of s (R59, R75): an id whose
section set is the same in both keeps its record, an id that becomes IDLE keeps it without a chair, and an id that is
ACTIVE in m with another section set is rebuilt, from the record of the id that the old map gave its lowest section, or
from the defaults of R57 where that section had no room, with the fields of the first profile whose section set is the
room's; and every chair is checked. -/
def recordsRestarted (s t : State) (m : RoomMap) : Prop :=
  (∀ r, sectionSet s.map.live r = sectionSet m r → t.room r = boundChair s m r (s.room r)) ∧
    (∀ r, activeIn m r = false → t.room r = { s.room r with chair := none }) ∧
    ∀ r i, sectionSet s.map.live r ≠ sectionSet m r → m.get i = some r → (∀ j, j < i → m.get j ≠ some r) →
      let start : Room := match s.map.live.get i with
        | some q => s.room q
        | none => ⟨.openFloor, 4, true, 0, 0, 50, 200, none, 200, 0, .fixed, none, .mute⟩
      let ours := fun e => (s.map.profiles.get e).map Profile.secs = some (sectionSet m r)
      ((∀ e, ¬ours e) → t.room r = boundChair s m r start) ∧
        ∀ e p, s.map.profiles.get e = some p → ours e → (∀ f, f < e → ¬ours f) →
          t.room r = boundChair s m r (p.fields.apply start)

/-- What a warm restart leaves of the state s (R41, R59, R75, R107, R130, R144, R164, R174, R190), the reports apart. -/
def restarted (s t : State) : Prop :=
  (∀ a, (t.station a).state = .empty) ∧
    (∀ p, (t.spur p).queue = [.resync] ∧ (t.spur p).hold = none ∧ (t.spur p).marks = [] ∧ (t.spur p).retry = [] ∧
      (t.spur p).assign = [] ∧ (t.spur p).pollRequest = none ∧ (t.spur p).pollTimer = 0 ∧
      (t.spur p).lastPolled = none ∧ (t.spur p).threshold = 0 ∧ (t.spur p).badCount = 0 ∧
      (t.spur p).link = (s.spur p).link ∧ (∀ k, (t.spur p).talkSlots.get k = none) ∧
      (∀ k, (t.spur p).listenSlots.get k = none) ∧ (t.spur p).unserved = []) ∧
    t.floor = ⟨[], 0, 0, .fill 16 false, [], []⟩ ∧
    (∀ r, t.mix.applied.get r = 0 ∧ t.mix.clip.get r = 0) ∧
    t.override = ⟨false, s.override.code⟩ ∧
    (t.map.phase = .steady ∧ t.map.shadow = none ∧ t.map.flag = false ∧ t.map.live = s.candidate ∧
      t.map.profiles = s.map.profiles ∧ t.map.settle = s.map.settle ∧ t.map.settleCount = 0 ∧
      ∀ r, t.map.affected.get r = false) ∧
    recordsRestarted s t s.candidate ∧
    (∀ i, (t.map.live.get i).isSome = s.sections.get i) ∧
    (∀ b, (t.booth b).onA = none ∧ (t.booth b).onB = none ∧ (t.booth b).anchor = (s.booth b).anchor ∧
      (t.booth b).comprehension = (s.booth b).comprehension ∧ (t.booth b).outA = (s.booth b).outA ∧
      (t.booth b).outB = (s.booth b).outB ∧ (t.booth b).interlock = (s.booth b).interlock) ∧
    (∀ l, (t.channel l).code = (s.channel l).code ∧ (t.channel l).state ≠ .served) ∧ derivedFieldsStand t ∧ t.oneVoice ∧
    t.trunk = s.trunk ∧ t.bindings = s.bindings ∧ t.pollSpacing = s.pollSpacing ∧ t.lostHold = s.lostHold ∧
    t.lines = s.lines ∧ t.sections = s.sections ∧ t.walls = s.walls ∧ t.pending = s.pending ∧
    t.lane.assembly = Assembly.initial ∧ t.lane.stray = 0 ∧ t.lane.directives = [] ∧ t.lane.overrun = none ∧
    t.lane.reserved = false ∧ t.lane.sent = s.lane.sent

/-- WARM_RESTART (R41, R59, R75, R107, R130, R144, R164, R174, R190): every record is EMPTY, every spur's queue holds one
RESYNC and its lists are empty, every talk and listen slot is free, the floor and the mix engine start again, the
directive source is OFF, the machine is STEADY on a map that places exactly the enabled sections, the booths and channels
are worked out on it, the waiting directives, the overrun record and the reports that are not in transmission are gone,
and the RESULT carries what was removed: the tags of the directives behind it, the number of reports, and the overrun
record where it held one. The links, the clock, the bindings and timings, the lines, sections and walls, the profiles, the
booths' stored fields, the channels' codes and the override code are kept. So are the room records of the ids whose section
set stays, but for a chair that no binding seats in the room; an id that becomes IDLE keeps its record without a chair, and
a changed ACTIVE id has the record that R59 builds, its chair checked in the same way. The row runs it on an empty queue,
and DIRECTIVE_EXECUTION where it waits as the head, with others behind it. -/
def Obligations.WarmRestartClearsTheLiveState : Prop :=
  (∀ (s : State) (tag : Byte), s.ready →
    let kept := if s.lane.sent = 0 then [] else s.lane.reports.take 1
    ∃ t, exec (.warmRestart tag []) s = .next t ∧ restarted s t ∧
      t.lane.reports = kept ++
        [⟨.result 0x02 tag .ok (.restart [] (s.lane.reports.length - kept.length) none), false⟩]) ∧
  (∀ (s : State) (tag b : Byte) (bs : List Byte), s.ready → (b :: bs).length ≤ 60 →
    exec (.warmRestart tag (b :: bs)) s = .next (s.answered 0x02 tag .badLength .nothing)) ∧
  ∀ (s : State) (tag : Byte) (ds : List Directive), s.lane.directives = ⟨0x02, tag, []⟩ :: ds →
    s.lane.reports.length ≤ 62 →
    let kept := if s.lane.sent = 0 then [] else s.lane.reports.take 1
    ∃ t, exec .directiveExecution s = .next t ∧ restarted s t ∧
      t.lane.reports = kept ++ [⟨.result 0x02 tag .ok
        (.restart (ds.map Directive.tag) (s.lane.reports.length - kept.length) s.lane.overrun), false⟩]
end

