-- ==== Sys2Proof/Decode.lean ====
section
/-! DEFINITION. The decoder of the table's words. Every row of spec/opcode_table.json has an empty list of fields and no
bits, so no word spells a command (log 11). The bytes that do spell directives and station events are decoded where
the lane and the frames bring them: Machine/Operands.lean and Machine/Wire.lean. -/

namespace Sys2Proof

/-- The command that a word spells by the table's bits: none. -/
def decodeTableWord (_nbits _w : Nat) : Option Instr := none

end Sys2Proof
end

