-- ==== Sys2Proof/Laws/Tab.lean ====
section
/-! SUPPORT. The laws of the tables of fixed size and of the searches over index types. -/

namespace Sys2Proof

theorem Tab.eq_of_data {n : Nat} {α : Type} {t u : Tab n α} (h : t.data = u.data) : t = u := by
  cases t; cases u; cases h; rfl

theorem Tab.get_eq {n : Nat} {α : Type} (t : Tab n α) (i : Fin n) :
    t.get i = t.data[i.val]'(by rw [t.size]; exact i.isLt) := rfl

@[simp] theorem Tab.get_set_self {n : Nat} {α : Type} (t : Tab n α) (i : Fin n) (x : α) : (t.set i x).get i = x := by
  simp [Tab.get_eq, Tab.set]

theorem Tab.get_set_ne {n : Nat} {α : Type} (t : Tab n α) {i j : Fin n} (x : α) (h : j ≠ i) :
    (t.set i x).get j = t.get j := by
  have : i.val ≠ j.val := fun e => h (Fin.ext e.symm)
  simp [Tab.get_eq, Tab.set, this]

theorem Tab.get_set {n : Nat} {α : Type} (t : Tab n α) (i j : Fin n) (x : α) :
    (t.set i x).get j = if j = i then x else t.get j := by
  by_cases h : j = i
  · subst h; simp
  · rw [if_neg h, t.get_set_ne x h]

@[simp] theorem Tab.get_modify_self {n : Nat} {α : Type} (t : Tab n α) (i : Fin n) (f : α → α) :
    (t.modify i f).get i = f (t.get i) := by
  simp [Tab.modify]

theorem Tab.get_modify_ne {n : Nat} {α : Type} (t : Tab n α) {i j : Fin n} (f : α → α) (h : j ≠ i) :
    (t.modify i f).get j = t.get j :=
  t.get_set_ne _ h

theorem Tab.get_modify {n : Nat} {α : Type} (t : Tab n α) (i j : Fin n) (f : α → α) :
    (t.modify i f).get j = if j = i then f (t.get j) else t.get j := by
  by_cases h : j = i
  · subst h; simp
  · rw [if_neg h, t.get_modify_ne f h]

@[simp] theorem Tab.get_map {n : Nat} {α β : Type} (t : Tab n α) (f : α → β) (i : Fin n) :
    (t.map f).get i = f (t.get i) := by
  simp [Tab.get_eq, Tab.map]

@[simp] theorem Tab.get_ofFn {n : Nat} {α : Type} (f : Fin n → α) (i : Fin n) : (Tab.ofFn f).get i = f i := by
  simp [Tab.get_eq, Tab.ofFn]

@[simp] theorem Tab.get_fill {n : Nat} {α : Type} (x : α) (i : Fin n) : (Tab.fill n x).get i = x := by
  simp [Tab.get_eq, Tab.fill]

/-- Two tables with the same entries are the same table. -/
theorem Tab.ext_get {n : Nat} {α : Type} {t u : Tab n α} (h : ∀ i, t.get i = u.get i) : t = u := by
  apply Tab.eq_of_data
  apply List.ext_getElem
  · rw [t.size, u.size]
  · intro k hk _
    have hn : k < n := by rw [← t.size]; exact hk
    simpa [Tab.get_eq] using h ⟨k, hn⟩

@[simp] theorem Tab.set_get {n : Nat} {α : Type} (t : Tab n α) (i : Fin n) : t.set i (t.get i) = t := by
  apply Tab.ext_get
  intro j
  rw [Tab.get_set]
  split
  · next h => rw [h]
  · rfl

@[simp] theorem Tab.map_ofFn {n : Nat} {α β : Type} (f : Fin n → α) (g : α → β) :
    (Tab.ofFn f).map g = Tab.ofFn fun i => g (f i) := by
  apply Tab.ext_get; simp

/-- A function of the entries does not see a change that it does not see at the entry. -/
theorem Tab.map_modify {n : Nat} {α β : Type} (t : Tab n α) (i : Fin n) (f : α → α) (g : α → β)
    (h : ∀ x, g (f x) = g x) : (t.modify i f).map g = t.map g := by
  apply Tab.ext_get
  intro j
  rw [Tab.get_map, Tab.get_map, Tab.get_modify]
  split
  · exact h _
  · rfl

/-- A change of one entry seen through a function of the entries. -/
theorem Tab.map_modify_comm {n : Nat} {α β : Type} (t : Tab n α) (i : Fin n) (f : α → α) (g : α → β) (f' : β → β)
    (h : ∀ x, g (f x) = f' (g x)) : (t.modify i f).map g = (t.map g).modify i f' := by
  apply Tab.ext_get
  intro j
  rw [Tab.get_map, Tab.get_modify, Tab.get_modify, Tab.get_map]
  split
  · exact h _
  · rfl

/-! ## Searches -/

theorem mem_finsWhere {n : Nat} {p : Fin n → Bool} {i : Fin n} : i ∈ finsWhere n p ↔ p i = true := by
  simp [finsWhere]

theorem finsWhere_nodup (n : Nat) (p : Fin n → Bool) : (finsWhere n p).Nodup :=
  (List.nodup_finRange n).filter p

theorem lowestFin_none {n : Nat} {p : Fin n → Bool} : lowestFin n p = none ↔ ∀ i, p i = false := by
  simp [lowestFin]

/-- The lowest index at which a test holds. -/
theorem lowestFin_some {n : Nat} {p : Fin n → Bool} {i : Fin n} :
    lowestFin n p = some i ↔ p i = true ∧ ∀ j, j < i → p j = false := by
  constructor
  · intro h
    rw [lowestFin, List.find?_eq_some_iff_getElem] at h
    obtain ⟨hp, k, hk, hki, hlow⟩ := h
    refine ⟨hp, fun j hj => ?_⟩
    rw [List.getElem_finRange] at hki
    subst hki
    have := hlow j.val (by simpa [Fin.lt_def] using hj)
    simpa using this
  · rintro ⟨hp, hlow⟩
    cases h : lowestFin n p with
    | none => rw [lowestFin_none] at h; rw [h i] at hp; cases hp
    | some j =>
      have hj : p j = true ∧ ∀ m, m < j → p m = false := by
        rw [lowestFin, List.find?_eq_some_iff_getElem] at h
        obtain ⟨hp', k, hk, hki, hlow'⟩ := h
        refine ⟨hp', fun m hm => ?_⟩
        rw [List.getElem_finRange] at hki
        subst hki
        simpa using hlow' m.val (by simpa [Fin.lt_def] using hm)
      rcases lt_trichotomy i j with hlt | heq | hgt
      · rw [hj.2 i hlt] at hp; cases hp
      · rw [heq]
      · rw [hlow j hgt] at hj; cases hj.1

/-- A property that holds at the start and that every step keeps holds at the end. -/
theorem foldl_keeps {α σ : Type} (P : σ → Prop) (f : σ → α → σ) (xs : List α) (s : σ) (h0 : P s)
    (hstep : ∀ s x, x ∈ xs → P s → P (f s x)) : P (xs.foldl f s) := by
  induction xs generalizing s with
  | nil => exact h0
  | cons x xs ih =>
    exact ih (f s x) (hstep s x List.mem_cons_self h0) fun s y hy => hstep s y (List.mem_cons_of_mem x hy)

/-- What every step leaves as it was, a fold leaves as it was. -/
theorem foldl_same {α σ τ : Type} (view : σ → τ) (f : σ → α → σ) (xs : List α) (s : σ)
    (hstep : ∀ s x, view (f s x) = view s) : view (xs.foldl f s) = view s := by
  induction xs generalizing s with
  | nil => rfl
  | cons x xs ih => rw [List.foldl_cons, ih, hstep]

theorem eachFin_keeps {σ : Type} {n : Nat} (P : σ → Prop) (f : Fin n → σ → σ) (s : σ) (h0 : P s)
    (hstep : ∀ i s, P s → P (f i s)) : P (eachFin n f s) :=
  foldl_keeps P _ _ s h0 fun s i _ => hstep i s

theorem eachFin_same {σ τ : Type} {n : Nat} (view : σ → τ) (f : Fin n → σ → σ) (s : σ)
    (hstep : ∀ i s, view (f i s) = view s) : view (eachFin n f s) = view s :=
  foldl_same view _ _ s fun s i => hstep i s

/-! ## Sorting -/

theorem insertBy_perm {α : Type} (before : α → α → Bool) (x : α) (ys : List α) :
    (insertBy before x ys).Perm (x :: ys) := by
  induction ys with
  | nil => rfl
  | cons y ys ih =>
    rw [insertBy]
    split
    · rfl
    · exact (ih.cons y).trans (List.Perm.swap x y ys)

/-- Sorting keeps every element, each as often as it stood there. -/
theorem sortBy_perm {α : Type} (before : α → α → Bool) (xs : List α) : (sortBy before xs).Perm xs := by
  have key : ∀ (xs acc : List α), (xs.foldl (fun acc x => insertBy before x acc) acc).Perm (xs ++ acc) := by
    intro xs
    induction xs with
    | nil => intro acc; rfl
    | cons x xs ih =>
      intro acc
      refine (ih _).trans ?_
      refine ((insertBy_perm before x acc).append_left xs).trans ?_
      exact List.perm_middle
  simpa [sortBy] using key xs []

theorem mem_sortBy {α : Type} {before : α → α → Bool} {xs : List α} {x : α} :
    x ∈ sortBy before xs ↔ x ∈ xs :=
  (sortBy_perm before xs).mem_iff

theorem sortBy_length {α : Type} (before : α → α → Bool) (xs : List α) : (sortBy before xs).length = xs.length :=
  (sortBy_perm before xs).length_eq

end Sys2Proof
end

