-- ==== Sys2Proof/Laws/Changeover.lean ====
section
/-! SUPPORT. What the room map unit's checks of a chair do, said once: the check of a record (R59 step 3), the records of a
new map (R59), those of a warm restart (R75), and the seat check of one room (R63). -/

namespace Sys2Proof.Machine

/-- The check of a chair keeps every field but the chair, and keeps that exactly when its seat is in the room. -/
theorem State.checkChair_eq (s : State) (m : RoomMap) (r : RoomIx) (x : Room) :
    s.checkChair m r x = { x with chair := x.chair.filter (s.seatIn m r) } := by
  unfold State.checkChair
  split
  · next a h =>
    cases x
    simp only at h
    subst h
    split <;> simp_all [Option.filter]
  · next h =>
    cases x
    simp_all

/-- A chair checked once passes the same check again. -/
@[simp] theorem State.checkChair_checkChair (s : State) (m : RoomMap) (r : RoomIx) (x : Room) :
    s.checkChair m r (s.checkChair m r x) = s.checkChair m r x := by
  simp [State.checkChair_eq, Option.filter_filter]

/-- The record of one id under a new map (R59): rebuilt when the id is changed, and kept otherwise. -/
theorem State.builtRooms_get (s : State) (new : RoomMap) (r : RoomIx) :
    (s.builtRooms new).get r =
      if (changedIds s.map.live new).contains r then s.checkChair new r (s.profiledRecord new r) else s.room r := by
  rw [State.builtRooms, Tab.get_ofFn]; rfl

/-- The live map after the warm restart is the candidate of the tables, the changeover abandoned (R75). -/
theorem State.mapRestart_live (s : State) :
    s.mapRestart.map.live = State.candidate { s with map := s.map.abandon } := rfl

/-- The record of one id after the room map unit's warm restart (R75): changed ids rebuilt, and every chair checked. -/
theorem State.mapRestart_room (s : State) (r : RoomIx) :
    let t : State := { s with map := s.map.abandon }
    s.mapRestart.room r = t.checkChair t.candidate r
      (if (changedIds s.map.live t.candidate).contains r then t.profiledRecord t.candidate r else s.room r) := by
  have h : s.mapRestart.room r = State.checkChair { s with map := s.map.abandon } _ r
      ((State.builtRooms { s with map := s.map.abandon } _).get r) := Tab.get_ofFn _ _
  rw [h, State.builtRooms_get]
  dsimp only
  rw [apply_ite (State.checkChair _ _ r), apply_ite (State.checkChair _ _ r), State.checkChair_checkChair]
  rfl

/-- The seat check of one room leaves the part as it is unless the room's chair is the station and its seat is in another
room, or in none (R63). -/
theorem State.seatCheckRoom_cases (a : Addr) (before : State) (r : RoomIx) (s : State) :
    (((s.room r).chair ≠ some a ∨ s.seatIn s.map.live r a = true) ∧ State.seatCheckRoom a before r s = s) ∨
    ((s.room r).chair = some a ∧ s.seatIn s.map.live r a = false ∧ State.seatCheckRoom a before r s =
      ((s.updRoom r fun x => { x with chair := none }).chairChange before r (some a) none .moved).endFloorEvent) := by
  unfold State.seatCheckRoom
  split
  · next h =>
    simp only [Bool.and_eq_true, beq_iff_eq, Bool.not_eq_true'] at h
    exact .inr ⟨h.1, h.2, rfl⟩
  · next h =>
    simp only [Bool.and_eq_true, beq_iff_eq, Bool.not_eq_true', not_and, Bool.not_eq_false] at h
    exact .inl ⟨Classical.or_iff_not_imp_left.2 fun g => h (Classical.not_not.1 g), rfl⟩

end Sys2Proof.Machine
end

