-- ==== Sys2Proof/Laws/State.lean ====
section
/-! SUPPORT. One lemma for each field of State under each of its updates, true by definition, so that no later proof
unfolds a record update; then what the accessors read after each. -/

namespace Sys2Proof.Machine

/-! ## updStation -/

@[simp] theorem State.updStation_pending (s : State) (a : Addr) (f : Station → Station) :
    (s.updStation a f).pending = s.pending := rfl
@[simp] theorem State.updStation_handed (s : State) (a : Addr) (f : Station → Station) :
    (s.updStation a f).handed = s.handed := rfl
@[simp] theorem State.updStation_trunk (s : State) (a : Addr) (f : Station → Station) :
    (s.updStation a f).trunk = s.trunk := rfl
@[simp] theorem State.updStation_spurs (s : State) (a : Addr) (f : Station → Station) :
    (s.updStation a f).spurs = s.spurs := rfl
@[simp] theorem State.updStation_bindings (s : State) (a : Addr) (f : Station → Station) :
    (s.updStation a f).bindings = s.bindings := rfl
@[simp] theorem State.updStation_pollSpacing (s : State) (a : Addr) (f : Station → Station) :
    (s.updStation a f).pollSpacing = s.pollSpacing := rfl
@[simp] theorem State.updStation_lostHold (s : State) (a : Addr) (f : Station → Station) :
    (s.updStation a f).lostHold = s.lostHold := rfl
@[simp] theorem State.updStation_lines (s : State) (a : Addr) (f : Station → Station) :
    (s.updStation a f).lines = s.lines := rfl
@[simp] theorem State.updStation_sections (s : State) (a : Addr) (f : Station → Station) :
    (s.updStation a f).sections = s.sections := rfl
@[simp] theorem State.updStation_walls (s : State) (a : Addr) (f : Station → Station) :
    (s.updStation a f).walls = s.walls := rfl
@[simp] theorem State.updStation_map (s : State) (a : Addr) (f : Station → Station) :
    (s.updStation a f).map = s.map := rfl
@[simp] theorem State.updStation_floor (s : State) (a : Addr) (f : Station → Station) :
    (s.updStation a f).floor = s.floor := rfl
@[simp] theorem State.updStation_booths (s : State) (a : Addr) (f : Station → Station) :
    (s.updStation a f).booths = s.booths := rfl
@[simp] theorem State.updStation_channels (s : State) (a : Addr) (f : Station → Station) :
    (s.updStation a f).channels = s.channels := rfl
@[simp] theorem State.updStation_mix (s : State) (a : Addr) (f : Station → Station) :
    (s.updStation a f).mix = s.mix := rfl
@[simp] theorem State.updStation_override (s : State) (a : Addr) (f : Station → Station) :
    (s.updStation a f).override = s.override := rfl
@[simp] theorem State.updStation_lane (s : State) (a : Addr) (f : Station → Station) :
    (s.updStation a f).lane = s.lane := rfl

/-! ## updSpur -/

@[simp] theorem State.updSpur_pending (s : State) (p : SpurIx) (f : Spur → Spur) :
    (s.updSpur p f).pending = s.pending := rfl
@[simp] theorem State.updSpur_handed (s : State) (p : SpurIx) (f : Spur → Spur) :
    (s.updSpur p f).handed = s.handed := rfl
@[simp] theorem State.updSpur_trunk (s : State) (p : SpurIx) (f : Spur → Spur) :
    (s.updSpur p f).trunk = s.trunk := rfl
@[simp] theorem State.updSpur_stations (s : State) (p : SpurIx) (f : Spur → Spur) :
    (s.updSpur p f).stations = s.stations := rfl
@[simp] theorem State.updSpur_bindings (s : State) (p : SpurIx) (f : Spur → Spur) :
    (s.updSpur p f).bindings = s.bindings := rfl
@[simp] theorem State.updSpur_pollSpacing (s : State) (p : SpurIx) (f : Spur → Spur) :
    (s.updSpur p f).pollSpacing = s.pollSpacing := rfl
@[simp] theorem State.updSpur_lostHold (s : State) (p : SpurIx) (f : Spur → Spur) :
    (s.updSpur p f).lostHold = s.lostHold := rfl
@[simp] theorem State.updSpur_lines (s : State) (p : SpurIx) (f : Spur → Spur) :
    (s.updSpur p f).lines = s.lines := rfl
@[simp] theorem State.updSpur_sections (s : State) (p : SpurIx) (f : Spur → Spur) :
    (s.updSpur p f).sections = s.sections := rfl
@[simp] theorem State.updSpur_walls (s : State) (p : SpurIx) (f : Spur → Spur) :
    (s.updSpur p f).walls = s.walls := rfl
@[simp] theorem State.updSpur_map (s : State) (p : SpurIx) (f : Spur → Spur) :
    (s.updSpur p f).map = s.map := rfl
@[simp] theorem State.updSpur_floor (s : State) (p : SpurIx) (f : Spur → Spur) :
    (s.updSpur p f).floor = s.floor := rfl
@[simp] theorem State.updSpur_booths (s : State) (p : SpurIx) (f : Spur → Spur) :
    (s.updSpur p f).booths = s.booths := rfl
@[simp] theorem State.updSpur_channels (s : State) (p : SpurIx) (f : Spur → Spur) :
    (s.updSpur p f).channels = s.channels := rfl
@[simp] theorem State.updSpur_mix (s : State) (p : SpurIx) (f : Spur → Spur) :
    (s.updSpur p f).mix = s.mix := rfl
@[simp] theorem State.updSpur_override (s : State) (p : SpurIx) (f : Spur → Spur) :
    (s.updSpur p f).override = s.override := rfl
@[simp] theorem State.updSpur_lane (s : State) (p : SpurIx) (f : Spur → Spur) :
    (s.updSpur p f).lane = s.lane := rfl

/-! ## updRoom -/

@[simp] theorem State.updRoom_pending (s : State) (r : RoomIx) (f : Room → Room) :
    (s.updRoom r f).pending = s.pending := rfl
@[simp] theorem State.updRoom_handed (s : State) (r : RoomIx) (f : Room → Room) :
    (s.updRoom r f).handed = s.handed := rfl
@[simp] theorem State.updRoom_trunk (s : State) (r : RoomIx) (f : Room → Room) :
    (s.updRoom r f).trunk = s.trunk := rfl
@[simp] theorem State.updRoom_spurs (s : State) (r : RoomIx) (f : Room → Room) :
    (s.updRoom r f).spurs = s.spurs := rfl
@[simp] theorem State.updRoom_stations (s : State) (r : RoomIx) (f : Room → Room) :
    (s.updRoom r f).stations = s.stations := rfl
@[simp] theorem State.updRoom_bindings (s : State) (r : RoomIx) (f : Room → Room) :
    (s.updRoom r f).bindings = s.bindings := rfl
@[simp] theorem State.updRoom_pollSpacing (s : State) (r : RoomIx) (f : Room → Room) :
    (s.updRoom r f).pollSpacing = s.pollSpacing := rfl
@[simp] theorem State.updRoom_lostHold (s : State) (r : RoomIx) (f : Room → Room) :
    (s.updRoom r f).lostHold = s.lostHold := rfl
@[simp] theorem State.updRoom_lines (s : State) (r : RoomIx) (f : Room → Room) :
    (s.updRoom r f).lines = s.lines := rfl
@[simp] theorem State.updRoom_sections (s : State) (r : RoomIx) (f : Room → Room) :
    (s.updRoom r f).sections = s.sections := rfl
@[simp] theorem State.updRoom_walls (s : State) (r : RoomIx) (f : Room → Room) :
    (s.updRoom r f).walls = s.walls := rfl
@[simp] theorem State.updRoom_floor (s : State) (r : RoomIx) (f : Room → Room) :
    (s.updRoom r f).floor = s.floor := rfl
@[simp] theorem State.updRoom_booths (s : State) (r : RoomIx) (f : Room → Room) :
    (s.updRoom r f).booths = s.booths := rfl
@[simp] theorem State.updRoom_channels (s : State) (r : RoomIx) (f : Room → Room) :
    (s.updRoom r f).channels = s.channels := rfl
@[simp] theorem State.updRoom_mix (s : State) (r : RoomIx) (f : Room → Room) :
    (s.updRoom r f).mix = s.mix := rfl
@[simp] theorem State.updRoom_override (s : State) (r : RoomIx) (f : Room → Room) :
    (s.updRoom r f).override = s.override := rfl
@[simp] theorem State.updRoom_lane (s : State) (r : RoomIx) (f : Room → Room) :
    (s.updRoom r f).lane = s.lane := rfl

/-! ## updLine -/

@[simp] theorem State.updLine_pending (s : State) (l : LineIx) (f : Line → Line) :
    (s.updLine l f).pending = s.pending := rfl
@[simp] theorem State.updLine_handed (s : State) (l : LineIx) (f : Line → Line) :
    (s.updLine l f).handed = s.handed := rfl
@[simp] theorem State.updLine_trunk (s : State) (l : LineIx) (f : Line → Line) :
    (s.updLine l f).trunk = s.trunk := rfl
@[simp] theorem State.updLine_spurs (s : State) (l : LineIx) (f : Line → Line) :
    (s.updLine l f).spurs = s.spurs := rfl
@[simp] theorem State.updLine_stations (s : State) (l : LineIx) (f : Line → Line) :
    (s.updLine l f).stations = s.stations := rfl
@[simp] theorem State.updLine_bindings (s : State) (l : LineIx) (f : Line → Line) :
    (s.updLine l f).bindings = s.bindings := rfl
@[simp] theorem State.updLine_pollSpacing (s : State) (l : LineIx) (f : Line → Line) :
    (s.updLine l f).pollSpacing = s.pollSpacing := rfl
@[simp] theorem State.updLine_lostHold (s : State) (l : LineIx) (f : Line → Line) :
    (s.updLine l f).lostHold = s.lostHold := rfl
@[simp] theorem State.updLine_sections (s : State) (l : LineIx) (f : Line → Line) :
    (s.updLine l f).sections = s.sections := rfl
@[simp] theorem State.updLine_walls (s : State) (l : LineIx) (f : Line → Line) :
    (s.updLine l f).walls = s.walls := rfl
@[simp] theorem State.updLine_map (s : State) (l : LineIx) (f : Line → Line) :
    (s.updLine l f).map = s.map := rfl
@[simp] theorem State.updLine_floor (s : State) (l : LineIx) (f : Line → Line) :
    (s.updLine l f).floor = s.floor := rfl
@[simp] theorem State.updLine_booths (s : State) (l : LineIx) (f : Line → Line) :
    (s.updLine l f).booths = s.booths := rfl
@[simp] theorem State.updLine_channels (s : State) (l : LineIx) (f : Line → Line) :
    (s.updLine l f).channels = s.channels := rfl
@[simp] theorem State.updLine_mix (s : State) (l : LineIx) (f : Line → Line) :
    (s.updLine l f).mix = s.mix := rfl
@[simp] theorem State.updLine_override (s : State) (l : LineIx) (f : Line → Line) :
    (s.updLine l f).override = s.override := rfl
@[simp] theorem State.updLine_lane (s : State) (l : LineIx) (f : Line → Line) :
    (s.updLine l f).lane = s.lane := rfl

/-! ## updWall -/

@[simp] theorem State.updWall_pending (s : State) (w : WallIx) (f : Wall → Wall) :
    (s.updWall w f).pending = s.pending := rfl
@[simp] theorem State.updWall_handed (s : State) (w : WallIx) (f : Wall → Wall) :
    (s.updWall w f).handed = s.handed := rfl
@[simp] theorem State.updWall_trunk (s : State) (w : WallIx) (f : Wall → Wall) :
    (s.updWall w f).trunk = s.trunk := rfl
@[simp] theorem State.updWall_spurs (s : State) (w : WallIx) (f : Wall → Wall) :
    (s.updWall w f).spurs = s.spurs := rfl
@[simp] theorem State.updWall_stations (s : State) (w : WallIx) (f : Wall → Wall) :
    (s.updWall w f).stations = s.stations := rfl
@[simp] theorem State.updWall_bindings (s : State) (w : WallIx) (f : Wall → Wall) :
    (s.updWall w f).bindings = s.bindings := rfl
@[simp] theorem State.updWall_pollSpacing (s : State) (w : WallIx) (f : Wall → Wall) :
    (s.updWall w f).pollSpacing = s.pollSpacing := rfl
@[simp] theorem State.updWall_lostHold (s : State) (w : WallIx) (f : Wall → Wall) :
    (s.updWall w f).lostHold = s.lostHold := rfl
@[simp] theorem State.updWall_lines (s : State) (w : WallIx) (f : Wall → Wall) :
    (s.updWall w f).lines = s.lines := rfl
@[simp] theorem State.updWall_sections (s : State) (w : WallIx) (f : Wall → Wall) :
    (s.updWall w f).sections = s.sections := rfl
@[simp] theorem State.updWall_map (s : State) (w : WallIx) (f : Wall → Wall) :
    (s.updWall w f).map = s.map := rfl
@[simp] theorem State.updWall_floor (s : State) (w : WallIx) (f : Wall → Wall) :
    (s.updWall w f).floor = s.floor := rfl
@[simp] theorem State.updWall_booths (s : State) (w : WallIx) (f : Wall → Wall) :
    (s.updWall w f).booths = s.booths := rfl
@[simp] theorem State.updWall_channels (s : State) (w : WallIx) (f : Wall → Wall) :
    (s.updWall w f).channels = s.channels := rfl
@[simp] theorem State.updWall_mix (s : State) (w : WallIx) (f : Wall → Wall) :
    (s.updWall w f).mix = s.mix := rfl
@[simp] theorem State.updWall_override (s : State) (w : WallIx) (f : Wall → Wall) :
    (s.updWall w f).override = s.override := rfl
@[simp] theorem State.updWall_lane (s : State) (w : WallIx) (f : Wall → Wall) :
    (s.updWall w f).lane = s.lane := rfl

/-! ## updBooth -/

@[simp] theorem State.updBooth_pending (s : State) (b : BoothIx) (f : Booth → Booth) :
    (s.updBooth b f).pending = s.pending := rfl
@[simp] theorem State.updBooth_handed (s : State) (b : BoothIx) (f : Booth → Booth) :
    (s.updBooth b f).handed = s.handed := rfl
@[simp] theorem State.updBooth_trunk (s : State) (b : BoothIx) (f : Booth → Booth) :
    (s.updBooth b f).trunk = s.trunk := rfl
@[simp] theorem State.updBooth_spurs (s : State) (b : BoothIx) (f : Booth → Booth) :
    (s.updBooth b f).spurs = s.spurs := rfl
@[simp] theorem State.updBooth_stations (s : State) (b : BoothIx) (f : Booth → Booth) :
    (s.updBooth b f).stations = s.stations := rfl
@[simp] theorem State.updBooth_bindings (s : State) (b : BoothIx) (f : Booth → Booth) :
    (s.updBooth b f).bindings = s.bindings := rfl
@[simp] theorem State.updBooth_pollSpacing (s : State) (b : BoothIx) (f : Booth → Booth) :
    (s.updBooth b f).pollSpacing = s.pollSpacing := rfl
@[simp] theorem State.updBooth_lostHold (s : State) (b : BoothIx) (f : Booth → Booth) :
    (s.updBooth b f).lostHold = s.lostHold := rfl
@[simp] theorem State.updBooth_lines (s : State) (b : BoothIx) (f : Booth → Booth) :
    (s.updBooth b f).lines = s.lines := rfl
@[simp] theorem State.updBooth_sections (s : State) (b : BoothIx) (f : Booth → Booth) :
    (s.updBooth b f).sections = s.sections := rfl
@[simp] theorem State.updBooth_walls (s : State) (b : BoothIx) (f : Booth → Booth) :
    (s.updBooth b f).walls = s.walls := rfl
@[simp] theorem State.updBooth_map (s : State) (b : BoothIx) (f : Booth → Booth) :
    (s.updBooth b f).map = s.map := rfl
@[simp] theorem State.updBooth_floor (s : State) (b : BoothIx) (f : Booth → Booth) :
    (s.updBooth b f).floor = s.floor := rfl
@[simp] theorem State.updBooth_channels (s : State) (b : BoothIx) (f : Booth → Booth) :
    (s.updBooth b f).channels = s.channels := rfl
@[simp] theorem State.updBooth_mix (s : State) (b : BoothIx) (f : Booth → Booth) :
    (s.updBooth b f).mix = s.mix := rfl
@[simp] theorem State.updBooth_override (s : State) (b : BoothIx) (f : Booth → Booth) :
    (s.updBooth b f).override = s.override := rfl
@[simp] theorem State.updBooth_lane (s : State) (b : BoothIx) (f : Booth → Booth) :
    (s.updBooth b f).lane = s.lane := rfl

/-! ## place -/

@[simp] theorem State.place_pending (s : State) (r : Report) :
    (s.place r).pending = s.pending := rfl
@[simp] theorem State.place_handed (s : State) (r : Report) :
    (s.place r).handed = s.handed := rfl
@[simp] theorem State.place_trunk (s : State) (r : Report) :
    (s.place r).trunk = s.trunk := rfl
@[simp] theorem State.place_spurs (s : State) (r : Report) :
    (s.place r).spurs = s.spurs := rfl
@[simp] theorem State.place_stations (s : State) (r : Report) :
    (s.place r).stations = s.stations := rfl
@[simp] theorem State.place_bindings (s : State) (r : Report) :
    (s.place r).bindings = s.bindings := rfl
@[simp] theorem State.place_pollSpacing (s : State) (r : Report) :
    (s.place r).pollSpacing = s.pollSpacing := rfl
@[simp] theorem State.place_lostHold (s : State) (r : Report) :
    (s.place r).lostHold = s.lostHold := rfl
@[simp] theorem State.place_lines (s : State) (r : Report) :
    (s.place r).lines = s.lines := rfl
@[simp] theorem State.place_sections (s : State) (r : Report) :
    (s.place r).sections = s.sections := rfl
@[simp] theorem State.place_walls (s : State) (r : Report) :
    (s.place r).walls = s.walls := rfl
@[simp] theorem State.place_map (s : State) (r : Report) :
    (s.place r).map = s.map := rfl
@[simp] theorem State.place_floor (s : State) (r : Report) :
    (s.place r).floor = s.floor := rfl
@[simp] theorem State.place_booths (s : State) (r : Report) :
    (s.place r).booths = s.booths := rfl
@[simp] theorem State.place_channels (s : State) (r : Report) :
    (s.place r).channels = s.channels := rfl
@[simp] theorem State.place_mix (s : State) (r : Report) :
    (s.place r).mix = s.mix := rfl
@[simp] theorem State.place_override (s : State) (r : Report) :
    (s.place r).override = s.override := rfl

/-! ## setAssembly -/

@[simp] theorem State.setAssembly_pending (s : State) (a : Assembly) :
    (s.setAssembly a).pending = s.pending := rfl
@[simp] theorem State.setAssembly_handed (s : State) (a : Assembly) :
    (s.setAssembly a).handed = s.handed := rfl
@[simp] theorem State.setAssembly_trunk (s : State) (a : Assembly) :
    (s.setAssembly a).trunk = s.trunk := rfl
@[simp] theorem State.setAssembly_spurs (s : State) (a : Assembly) :
    (s.setAssembly a).spurs = s.spurs := rfl
@[simp] theorem State.setAssembly_stations (s : State) (a : Assembly) :
    (s.setAssembly a).stations = s.stations := rfl
@[simp] theorem State.setAssembly_bindings (s : State) (a : Assembly) :
    (s.setAssembly a).bindings = s.bindings := rfl
@[simp] theorem State.setAssembly_pollSpacing (s : State) (a : Assembly) :
    (s.setAssembly a).pollSpacing = s.pollSpacing := rfl
@[simp] theorem State.setAssembly_lostHold (s : State) (a : Assembly) :
    (s.setAssembly a).lostHold = s.lostHold := rfl
@[simp] theorem State.setAssembly_lines (s : State) (a : Assembly) :
    (s.setAssembly a).lines = s.lines := rfl
@[simp] theorem State.setAssembly_sections (s : State) (a : Assembly) :
    (s.setAssembly a).sections = s.sections := rfl
@[simp] theorem State.setAssembly_walls (s : State) (a : Assembly) :
    (s.setAssembly a).walls = s.walls := rfl
@[simp] theorem State.setAssembly_map (s : State) (a : Assembly) :
    (s.setAssembly a).map = s.map := rfl
@[simp] theorem State.setAssembly_floor (s : State) (a : Assembly) :
    (s.setAssembly a).floor = s.floor := rfl
@[simp] theorem State.setAssembly_booths (s : State) (a : Assembly) :
    (s.setAssembly a).booths = s.booths := rfl
@[simp] theorem State.setAssembly_channels (s : State) (a : Assembly) :
    (s.setAssembly a).channels = s.channels := rfl
@[simp] theorem State.setAssembly_mix (s : State) (a : Assembly) :
    (s.setAssembly a).mix = s.mix := rfl
@[simp] theorem State.setAssembly_override (s : State) (a : Assembly) :
    (s.setAssembly a).override = s.override := rfl

/-! ## unhand -/

@[simp] theorem State.unhand_pending (s : State) (c : Instr) :
    (s.unhand c).pending = s.pending := rfl
@[simp] theorem State.unhand_trunk (s : State) (c : Instr) :
    (s.unhand c).trunk = s.trunk := rfl
@[simp] theorem State.unhand_spurs (s : State) (c : Instr) :
    (s.unhand c).spurs = s.spurs := rfl
@[simp] theorem State.unhand_stations (s : State) (c : Instr) :
    (s.unhand c).stations = s.stations := rfl
@[simp] theorem State.unhand_bindings (s : State) (c : Instr) :
    (s.unhand c).bindings = s.bindings := rfl
@[simp] theorem State.unhand_pollSpacing (s : State) (c : Instr) :
    (s.unhand c).pollSpacing = s.pollSpacing := rfl
@[simp] theorem State.unhand_lostHold (s : State) (c : Instr) :
    (s.unhand c).lostHold = s.lostHold := rfl
@[simp] theorem State.unhand_lines (s : State) (c : Instr) :
    (s.unhand c).lines = s.lines := rfl
@[simp] theorem State.unhand_sections (s : State) (c : Instr) :
    (s.unhand c).sections = s.sections := rfl
@[simp] theorem State.unhand_walls (s : State) (c : Instr) :
    (s.unhand c).walls = s.walls := rfl
@[simp] theorem State.unhand_map (s : State) (c : Instr) :
    (s.unhand c).map = s.map := rfl
@[simp] theorem State.unhand_floor (s : State) (c : Instr) :
    (s.unhand c).floor = s.floor := rfl
@[simp] theorem State.unhand_booths (s : State) (c : Instr) :
    (s.unhand c).booths = s.booths := rfl
@[simp] theorem State.unhand_channels (s : State) (c : Instr) :
    (s.unhand c).channels = s.channels := rfl
@[simp] theorem State.unhand_mix (s : State) (c : Instr) :
    (s.unhand c).mix = s.mix := rfl
@[simp] theorem State.unhand_override (s : State) (c : Instr) :
    (s.unhand c).override = s.override := rfl
@[simp] theorem State.unhand_lane (s : State) (c : Instr) :
    (s.unhand c).lane = s.lane := rfl

/-! ## setPriority -/

@[simp] theorem State.setPriority_pending (s : State) (r : RoomIx) (x : Bool) :
    (s.setPriority r x).pending = s.pending := rfl
@[simp] theorem State.setPriority_handed (s : State) (r : RoomIx) (x : Bool) :
    (s.setPriority r x).handed = s.handed := rfl
@[simp] theorem State.setPriority_trunk (s : State) (r : RoomIx) (x : Bool) :
    (s.setPriority r x).trunk = s.trunk := rfl
@[simp] theorem State.setPriority_spurs (s : State) (r : RoomIx) (x : Bool) :
    (s.setPriority r x).spurs = s.spurs := rfl
@[simp] theorem State.setPriority_stations (s : State) (r : RoomIx) (x : Bool) :
    (s.setPriority r x).stations = s.stations := rfl
@[simp] theorem State.setPriority_bindings (s : State) (r : RoomIx) (x : Bool) :
    (s.setPriority r x).bindings = s.bindings := rfl
@[simp] theorem State.setPriority_pollSpacing (s : State) (r : RoomIx) (x : Bool) :
    (s.setPriority r x).pollSpacing = s.pollSpacing := rfl
@[simp] theorem State.setPriority_lostHold (s : State) (r : RoomIx) (x : Bool) :
    (s.setPriority r x).lostHold = s.lostHold := rfl
@[simp] theorem State.setPriority_lines (s : State) (r : RoomIx) (x : Bool) :
    (s.setPriority r x).lines = s.lines := rfl
@[simp] theorem State.setPriority_sections (s : State) (r : RoomIx) (x : Bool) :
    (s.setPriority r x).sections = s.sections := rfl
@[simp] theorem State.setPriority_walls (s : State) (r : RoomIx) (x : Bool) :
    (s.setPriority r x).walls = s.walls := rfl
@[simp] theorem State.setPriority_map (s : State) (r : RoomIx) (x : Bool) :
    (s.setPriority r x).map = s.map := rfl
@[simp] theorem State.setPriority_booths (s : State) (r : RoomIx) (x : Bool) :
    (s.setPriority r x).booths = s.booths := rfl
@[simp] theorem State.setPriority_channels (s : State) (r : RoomIx) (x : Bool) :
    (s.setPriority r x).channels = s.channels := rfl
@[simp] theorem State.setPriority_mix (s : State) (r : RoomIx) (x : Bool) :
    (s.setPriority r x).mix = s.mix := rfl
@[simp] theorem State.setPriority_override (s : State) (r : RoomIx) (x : Bool) :
    (s.setPriority r x).override = s.override := rfl
@[simp] theorem State.setPriority_lane (s : State) (r : RoomIx) (x : Bool) :
    (s.setPriority r x).lane = s.lane := rfl

/-! ## nameRoom -/

@[simp] theorem State.nameRoom_pending (s : State) (r : RoomIx) :
    (s.nameRoom r).pending = s.pending := rfl
@[simp] theorem State.nameRoom_handed (s : State) (r : RoomIx) :
    (s.nameRoom r).handed = s.handed := rfl
@[simp] theorem State.nameRoom_trunk (s : State) (r : RoomIx) :
    (s.nameRoom r).trunk = s.trunk := rfl
@[simp] theorem State.nameRoom_spurs (s : State) (r : RoomIx) :
    (s.nameRoom r).spurs = s.spurs := rfl
@[simp] theorem State.nameRoom_stations (s : State) (r : RoomIx) :
    (s.nameRoom r).stations = s.stations := rfl
@[simp] theorem State.nameRoom_bindings (s : State) (r : RoomIx) :
    (s.nameRoom r).bindings = s.bindings := rfl
@[simp] theorem State.nameRoom_pollSpacing (s : State) (r : RoomIx) :
    (s.nameRoom r).pollSpacing = s.pollSpacing := rfl
@[simp] theorem State.nameRoom_lostHold (s : State) (r : RoomIx) :
    (s.nameRoom r).lostHold = s.lostHold := rfl
@[simp] theorem State.nameRoom_lines (s : State) (r : RoomIx) :
    (s.nameRoom r).lines = s.lines := rfl
@[simp] theorem State.nameRoom_sections (s : State) (r : RoomIx) :
    (s.nameRoom r).sections = s.sections := rfl
@[simp] theorem State.nameRoom_walls (s : State) (r : RoomIx) :
    (s.nameRoom r).walls = s.walls := rfl
@[simp] theorem State.nameRoom_map (s : State) (r : RoomIx) :
    (s.nameRoom r).map = s.map := rfl
@[simp] theorem State.nameRoom_booths (s : State) (r : RoomIx) :
    (s.nameRoom r).booths = s.booths := rfl
@[simp] theorem State.nameRoom_channels (s : State) (r : RoomIx) :
    (s.nameRoom r).channels = s.channels := rfl
@[simp] theorem State.nameRoom_mix (s : State) (r : RoomIx) :
    (s.nameRoom r).mix = s.mix := rfl
@[simp] theorem State.nameRoom_override (s : State) (r : RoomIx) :
    (s.nameRoom r).override = s.override := rfl
@[simp] theorem State.nameRoom_lane (s : State) (r : RoomIx) :
    (s.nameRoom r).lane = s.lane := rfl

/-! ## markFreed -/

@[simp] theorem State.markFreed_pending (s : State) (p : SpurIx) :
    (s.markFreed p).pending = s.pending := rfl
@[simp] theorem State.markFreed_handed (s : State) (p : SpurIx) :
    (s.markFreed p).handed = s.handed := rfl
@[simp] theorem State.markFreed_trunk (s : State) (p : SpurIx) :
    (s.markFreed p).trunk = s.trunk := rfl
@[simp] theorem State.markFreed_spurs (s : State) (p : SpurIx) :
    (s.markFreed p).spurs = s.spurs := rfl
@[simp] theorem State.markFreed_stations (s : State) (p : SpurIx) :
    (s.markFreed p).stations = s.stations := rfl
@[simp] theorem State.markFreed_bindings (s : State) (p : SpurIx) :
    (s.markFreed p).bindings = s.bindings := rfl
@[simp] theorem State.markFreed_pollSpacing (s : State) (p : SpurIx) :
    (s.markFreed p).pollSpacing = s.pollSpacing := rfl
@[simp] theorem State.markFreed_lostHold (s : State) (p : SpurIx) :
    (s.markFreed p).lostHold = s.lostHold := rfl
@[simp] theorem State.markFreed_lines (s : State) (p : SpurIx) :
    (s.markFreed p).lines = s.lines := rfl
@[simp] theorem State.markFreed_sections (s : State) (p : SpurIx) :
    (s.markFreed p).sections = s.sections := rfl
@[simp] theorem State.markFreed_walls (s : State) (p : SpurIx) :
    (s.markFreed p).walls = s.walls := rfl
@[simp] theorem State.markFreed_map (s : State) (p : SpurIx) :
    (s.markFreed p).map = s.map := rfl
@[simp] theorem State.markFreed_booths (s : State) (p : SpurIx) :
    (s.markFreed p).booths = s.booths := rfl
@[simp] theorem State.markFreed_channels (s : State) (p : SpurIx) :
    (s.markFreed p).channels = s.channels := rfl
@[simp] theorem State.markFreed_mix (s : State) (p : SpurIx) :
    (s.markFreed p).mix = s.mix := rfl
@[simp] theorem State.markFreed_override (s : State) (p : SpurIx) :
    (s.markFreed p).override = s.override := rfl
@[simp] theorem State.markFreed_lane (s : State) (p : SpurIx) :
    (s.markFreed p).lane = s.lane := rfl

/-! ## dropEntry -/

@[simp] theorem State.dropEntry_pending (s : State) (a : Addr) :
    (s.dropEntry a).pending = s.pending := rfl
@[simp] theorem State.dropEntry_handed (s : State) (a : Addr) :
    (s.dropEntry a).handed = s.handed := rfl
@[simp] theorem State.dropEntry_trunk (s : State) (a : Addr) :
    (s.dropEntry a).trunk = s.trunk := rfl
@[simp] theorem State.dropEntry_spurs (s : State) (a : Addr) :
    (s.dropEntry a).spurs = s.spurs := rfl
@[simp] theorem State.dropEntry_stations (s : State) (a : Addr) :
    (s.dropEntry a).stations = s.stations := rfl
@[simp] theorem State.dropEntry_bindings (s : State) (a : Addr) :
    (s.dropEntry a).bindings = s.bindings := rfl
@[simp] theorem State.dropEntry_pollSpacing (s : State) (a : Addr) :
    (s.dropEntry a).pollSpacing = s.pollSpacing := rfl
@[simp] theorem State.dropEntry_lostHold (s : State) (a : Addr) :
    (s.dropEntry a).lostHold = s.lostHold := rfl
@[simp] theorem State.dropEntry_lines (s : State) (a : Addr) :
    (s.dropEntry a).lines = s.lines := rfl
@[simp] theorem State.dropEntry_sections (s : State) (a : Addr) :
    (s.dropEntry a).sections = s.sections := rfl
@[simp] theorem State.dropEntry_walls (s : State) (a : Addr) :
    (s.dropEntry a).walls = s.walls := rfl
@[simp] theorem State.dropEntry_map (s : State) (a : Addr) :
    (s.dropEntry a).map = s.map := rfl
@[simp] theorem State.dropEntry_booths (s : State) (a : Addr) :
    (s.dropEntry a).booths = s.booths := rfl
@[simp] theorem State.dropEntry_channels (s : State) (a : Addr) :
    (s.dropEntry a).channels = s.channels := rfl
@[simp] theorem State.dropEntry_mix (s : State) (a : Addr) :
    (s.dropEntry a).mix = s.mix := rfl
@[simp] theorem State.dropEntry_override (s : State) (a : Addr) :
    (s.dropEntry a).override = s.override := rfl
@[simp] theorem State.dropEntry_lane (s : State) (a : Addr) :
    (s.dropEntry a).lane = s.lane := rfl

/-! ## setPhase -/

@[simp] theorem State.setPhase_pending (s : State) (p : Phase) :
    (s.setPhase p).pending = s.pending := rfl
@[simp] theorem State.setPhase_handed (s : State) (p : Phase) :
    (s.setPhase p).handed = s.handed := rfl
@[simp] theorem State.setPhase_trunk (s : State) (p : Phase) :
    (s.setPhase p).trunk = s.trunk := rfl
@[simp] theorem State.setPhase_spurs (s : State) (p : Phase) :
    (s.setPhase p).spurs = s.spurs := rfl
@[simp] theorem State.setPhase_stations (s : State) (p : Phase) :
    (s.setPhase p).stations = s.stations := rfl
@[simp] theorem State.setPhase_bindings (s : State) (p : Phase) :
    (s.setPhase p).bindings = s.bindings := rfl
@[simp] theorem State.setPhase_pollSpacing (s : State) (p : Phase) :
    (s.setPhase p).pollSpacing = s.pollSpacing := rfl
@[simp] theorem State.setPhase_lostHold (s : State) (p : Phase) :
    (s.setPhase p).lostHold = s.lostHold := rfl
@[simp] theorem State.setPhase_lines (s : State) (p : Phase) :
    (s.setPhase p).lines = s.lines := rfl
@[simp] theorem State.setPhase_sections (s : State) (p : Phase) :
    (s.setPhase p).sections = s.sections := rfl
@[simp] theorem State.setPhase_walls (s : State) (p : Phase) :
    (s.setPhase p).walls = s.walls := rfl
@[simp] theorem State.setPhase_floor (s : State) (p : Phase) :
    (s.setPhase p).floor = s.floor := rfl
@[simp] theorem State.setPhase_booths (s : State) (p : Phase) :
    (s.setPhase p).booths = s.booths := rfl
@[simp] theorem State.setPhase_channels (s : State) (p : Phase) :
    (s.setPhase p).channels = s.channels := rfl
@[simp] theorem State.setPhase_mix (s : State) (p : Phase) :
    (s.setPhase p).mix = s.mix := rfl
@[simp] theorem State.setPhase_override (s : State) (p : Phase) :
    (s.setPhase p).override = s.override := rfl
@[simp] theorem State.setPhase_lane (s : State) (p : Phase) :
    (s.setPhase p).lane = s.lane := rfl

/-! ## setFlag -/

@[simp] theorem State.setFlag_pending (s : State) (x : Bool) :
    (s.setFlag x).pending = s.pending := rfl
@[simp] theorem State.setFlag_handed (s : State) (x : Bool) :
    (s.setFlag x).handed = s.handed := rfl
@[simp] theorem State.setFlag_trunk (s : State) (x : Bool) :
    (s.setFlag x).trunk = s.trunk := rfl
@[simp] theorem State.setFlag_spurs (s : State) (x : Bool) :
    (s.setFlag x).spurs = s.spurs := rfl
@[simp] theorem State.setFlag_stations (s : State) (x : Bool) :
    (s.setFlag x).stations = s.stations := rfl
@[simp] theorem State.setFlag_bindings (s : State) (x : Bool) :
    (s.setFlag x).bindings = s.bindings := rfl
@[simp] theorem State.setFlag_pollSpacing (s : State) (x : Bool) :
    (s.setFlag x).pollSpacing = s.pollSpacing := rfl
@[simp] theorem State.setFlag_lostHold (s : State) (x : Bool) :
    (s.setFlag x).lostHold = s.lostHold := rfl
@[simp] theorem State.setFlag_lines (s : State) (x : Bool) :
    (s.setFlag x).lines = s.lines := rfl
@[simp] theorem State.setFlag_sections (s : State) (x : Bool) :
    (s.setFlag x).sections = s.sections := rfl
@[simp] theorem State.setFlag_walls (s : State) (x : Bool) :
    (s.setFlag x).walls = s.walls := rfl
@[simp] theorem State.setFlag_floor (s : State) (x : Bool) :
    (s.setFlag x).floor = s.floor := rfl
@[simp] theorem State.setFlag_booths (s : State) (x : Bool) :
    (s.setFlag x).booths = s.booths := rfl
@[simp] theorem State.setFlag_channels (s : State) (x : Bool) :
    (s.setFlag x).channels = s.channels := rfl
@[simp] theorem State.setFlag_mix (s : State) (x : Bool) :
    (s.setFlag x).mix = s.mix := rfl
@[simp] theorem State.setFlag_override (s : State) (x : Bool) :
    (s.setFlag x).override = s.override := rfl
@[simp] theorem State.setFlag_lane (s : State) (x : Bool) :
    (s.setFlag x).lane = s.lane := rfl

/-! ## setProfile -/

@[simp] theorem State.setProfile_pending (s : State) (e : EntryIx) (x : Option Profile) :
    (s.setProfile e x).pending = s.pending := rfl
@[simp] theorem State.setProfile_handed (s : State) (e : EntryIx) (x : Option Profile) :
    (s.setProfile e x).handed = s.handed := rfl
@[simp] theorem State.setProfile_trunk (s : State) (e : EntryIx) (x : Option Profile) :
    (s.setProfile e x).trunk = s.trunk := rfl
@[simp] theorem State.setProfile_spurs (s : State) (e : EntryIx) (x : Option Profile) :
    (s.setProfile e x).spurs = s.spurs := rfl
@[simp] theorem State.setProfile_stations (s : State) (e : EntryIx) (x : Option Profile) :
    (s.setProfile e x).stations = s.stations := rfl
@[simp] theorem State.setProfile_bindings (s : State) (e : EntryIx) (x : Option Profile) :
    (s.setProfile e x).bindings = s.bindings := rfl
@[simp] theorem State.setProfile_pollSpacing (s : State) (e : EntryIx) (x : Option Profile) :
    (s.setProfile e x).pollSpacing = s.pollSpacing := rfl
@[simp] theorem State.setProfile_lostHold (s : State) (e : EntryIx) (x : Option Profile) :
    (s.setProfile e x).lostHold = s.lostHold := rfl
@[simp] theorem State.setProfile_lines (s : State) (e : EntryIx) (x : Option Profile) :
    (s.setProfile e x).lines = s.lines := rfl
@[simp] theorem State.setProfile_sections (s : State) (e : EntryIx) (x : Option Profile) :
    (s.setProfile e x).sections = s.sections := rfl
@[simp] theorem State.setProfile_walls (s : State) (e : EntryIx) (x : Option Profile) :
    (s.setProfile e x).walls = s.walls := rfl
@[simp] theorem State.setProfile_floor (s : State) (e : EntryIx) (x : Option Profile) :
    (s.setProfile e x).floor = s.floor := rfl
@[simp] theorem State.setProfile_booths (s : State) (e : EntryIx) (x : Option Profile) :
    (s.setProfile e x).booths = s.booths := rfl
@[simp] theorem State.setProfile_channels (s : State) (e : EntryIx) (x : Option Profile) :
    (s.setProfile e x).channels = s.channels := rfl
@[simp] theorem State.setProfile_mix (s : State) (e : EntryIx) (x : Option Profile) :
    (s.setProfile e x).mix = s.mix := rfl
@[simp] theorem State.setProfile_override (s : State) (e : EntryIx) (x : Option Profile) :
    (s.setProfile e x).override = s.override := rfl
@[simp] theorem State.setProfile_lane (s : State) (e : EntryIx) (x : Option Profile) :
    (s.setProfile e x).lane = s.lane := rfl

/-! ## setCode -/

@[simp] theorem State.setCode_pending (s : State) (l : ChanIx) (c : Lang) :
    (s.setCode l c).pending = s.pending := rfl
@[simp] theorem State.setCode_handed (s : State) (l : ChanIx) (c : Lang) :
    (s.setCode l c).handed = s.handed := rfl
@[simp] theorem State.setCode_trunk (s : State) (l : ChanIx) (c : Lang) :
    (s.setCode l c).trunk = s.trunk := rfl
@[simp] theorem State.setCode_spurs (s : State) (l : ChanIx) (c : Lang) :
    (s.setCode l c).spurs = s.spurs := rfl
@[simp] theorem State.setCode_stations (s : State) (l : ChanIx) (c : Lang) :
    (s.setCode l c).stations = s.stations := rfl
@[simp] theorem State.setCode_bindings (s : State) (l : ChanIx) (c : Lang) :
    (s.setCode l c).bindings = s.bindings := rfl
@[simp] theorem State.setCode_pollSpacing (s : State) (l : ChanIx) (c : Lang) :
    (s.setCode l c).pollSpacing = s.pollSpacing := rfl
@[simp] theorem State.setCode_lostHold (s : State) (l : ChanIx) (c : Lang) :
    (s.setCode l c).lostHold = s.lostHold := rfl
@[simp] theorem State.setCode_lines (s : State) (l : ChanIx) (c : Lang) :
    (s.setCode l c).lines = s.lines := rfl
@[simp] theorem State.setCode_sections (s : State) (l : ChanIx) (c : Lang) :
    (s.setCode l c).sections = s.sections := rfl
@[simp] theorem State.setCode_walls (s : State) (l : ChanIx) (c : Lang) :
    (s.setCode l c).walls = s.walls := rfl
@[simp] theorem State.setCode_map (s : State) (l : ChanIx) (c : Lang) :
    (s.setCode l c).map = s.map := rfl
@[simp] theorem State.setCode_floor (s : State) (l : ChanIx) (c : Lang) :
    (s.setCode l c).floor = s.floor := rfl
@[simp] theorem State.setCode_booths (s : State) (l : ChanIx) (c : Lang) :
    (s.setCode l c).booths = s.booths := rfl
@[simp] theorem State.setCode_mix (s : State) (l : ChanIx) (c : Lang) :
    (s.setCode l c).mix = s.mix := rfl
@[simp] theorem State.setCode_override (s : State) (l : ChanIx) (c : Lang) :
    (s.setCode l c).override = s.override := rfl
@[simp] theorem State.setCode_lane (s : State) (l : ChanIx) (c : Lang) :
    (s.setCode l c).lane = s.lane := rfl

/-! ## What the accessors read -/

@[simp] theorem State.station_updSpur (s : State) (p : SpurIx) (f : Spur → Spur) (i : Addr) :
    (s.updSpur p f).station i = s.station i := rfl
@[simp] theorem State.station_updRoom (s : State) (r : RoomIx) (f : Room → Room) (i : Addr) :
    (s.updRoom r f).station i = s.station i := rfl
@[simp] theorem State.station_updLine (s : State) (l : LineIx) (f : Line → Line) (i : Addr) :
    (s.updLine l f).station i = s.station i := rfl
@[simp] theorem State.station_updWall (s : State) (w : WallIx) (f : Wall → Wall) (i : Addr) :
    (s.updWall w f).station i = s.station i := rfl
@[simp] theorem State.station_updBooth (s : State) (b : BoothIx) (f : Booth → Booth) (i : Addr) :
    (s.updBooth b f).station i = s.station i := rfl
@[simp] theorem State.station_place (s : State) (r : Report) (i : Addr) :
    (s.place r).station i = s.station i := rfl
@[simp] theorem State.station_setAssembly (s : State) (a : Assembly) (i : Addr) :
    (s.setAssembly a).station i = s.station i := rfl
@[simp] theorem State.station_unhand (s : State) (c : Instr) (i : Addr) :
    (s.unhand c).station i = s.station i := rfl
@[simp] theorem State.station_setPriority (s : State) (r : RoomIx) (x : Bool) (i : Addr) :
    (s.setPriority r x).station i = s.station i := rfl
@[simp] theorem State.station_nameRoom (s : State) (r : RoomIx) (i : Addr) :
    (s.nameRoom r).station i = s.station i := rfl
@[simp] theorem State.station_markFreed (s : State) (p : SpurIx) (i : Addr) :
    (s.markFreed p).station i = s.station i := rfl
@[simp] theorem State.station_dropEntry (s : State) (a : Addr) (i : Addr) :
    (s.dropEntry a).station i = s.station i := rfl
@[simp] theorem State.station_setPhase (s : State) (p : Phase) (i : Addr) :
    (s.setPhase p).station i = s.station i := rfl
@[simp] theorem State.station_setFlag (s : State) (x : Bool) (i : Addr) :
    (s.setFlag x).station i = s.station i := rfl
@[simp] theorem State.station_setProfile (s : State) (e : EntryIx) (x : Option Profile) (i : Addr) :
    (s.setProfile e x).station i = s.station i := rfl
@[simp] theorem State.station_setCode (s : State) (l : ChanIx) (c : Lang) (i : Addr) :
    (s.setCode l c).station i = s.station i := rfl
@[simp] theorem State.spur_updStation (s : State) (a : Addr) (f : Station → Station) (i : SpurIx) :
    (s.updStation a f).spur i = s.spur i := rfl
@[simp] theorem State.spur_updRoom (s : State) (r : RoomIx) (f : Room → Room) (i : SpurIx) :
    (s.updRoom r f).spur i = s.spur i := rfl
@[simp] theorem State.spur_updLine (s : State) (l : LineIx) (f : Line → Line) (i : SpurIx) :
    (s.updLine l f).spur i = s.spur i := rfl
@[simp] theorem State.spur_updWall (s : State) (w : WallIx) (f : Wall → Wall) (i : SpurIx) :
    (s.updWall w f).spur i = s.spur i := rfl
@[simp] theorem State.spur_updBooth (s : State) (b : BoothIx) (f : Booth → Booth) (i : SpurIx) :
    (s.updBooth b f).spur i = s.spur i := rfl
@[simp] theorem State.spur_place (s : State) (r : Report) (i : SpurIx) :
    (s.place r).spur i = s.spur i := rfl
@[simp] theorem State.spur_setAssembly (s : State) (a : Assembly) (i : SpurIx) :
    (s.setAssembly a).spur i = s.spur i := rfl
@[simp] theorem State.spur_unhand (s : State) (c : Instr) (i : SpurIx) :
    (s.unhand c).spur i = s.spur i := rfl
@[simp] theorem State.spur_setPriority (s : State) (r : RoomIx) (x : Bool) (i : SpurIx) :
    (s.setPriority r x).spur i = s.spur i := rfl
@[simp] theorem State.spur_nameRoom (s : State) (r : RoomIx) (i : SpurIx) :
    (s.nameRoom r).spur i = s.spur i := rfl
@[simp] theorem State.spur_markFreed (s : State) (p : SpurIx) (i : SpurIx) :
    (s.markFreed p).spur i = s.spur i := rfl
@[simp] theorem State.spur_dropEntry (s : State) (a : Addr) (i : SpurIx) :
    (s.dropEntry a).spur i = s.spur i := rfl
@[simp] theorem State.spur_setPhase (s : State) (p : Phase) (i : SpurIx) :
    (s.setPhase p).spur i = s.spur i := rfl
@[simp] theorem State.spur_setFlag (s : State) (x : Bool) (i : SpurIx) :
    (s.setFlag x).spur i = s.spur i := rfl
@[simp] theorem State.spur_setProfile (s : State) (e : EntryIx) (x : Option Profile) (i : SpurIx) :
    (s.setProfile e x).spur i = s.spur i := rfl
@[simp] theorem State.spur_setCode (s : State) (l : ChanIx) (c : Lang) (i : SpurIx) :
    (s.setCode l c).spur i = s.spur i := rfl
@[simp] theorem State.line_updStation (s : State) (a : Addr) (f : Station → Station) (i : LineIx) :
    (s.updStation a f).line i = s.line i := rfl
@[simp] theorem State.line_updSpur (s : State) (p : SpurIx) (f : Spur → Spur) (i : LineIx) :
    (s.updSpur p f).line i = s.line i := rfl
@[simp] theorem State.line_updRoom (s : State) (r : RoomIx) (f : Room → Room) (i : LineIx) :
    (s.updRoom r f).line i = s.line i := rfl
@[simp] theorem State.line_updWall (s : State) (w : WallIx) (f : Wall → Wall) (i : LineIx) :
    (s.updWall w f).line i = s.line i := rfl
@[simp] theorem State.line_updBooth (s : State) (b : BoothIx) (f : Booth → Booth) (i : LineIx) :
    (s.updBooth b f).line i = s.line i := rfl
@[simp] theorem State.line_place (s : State) (r : Report) (i : LineIx) :
    (s.place r).line i = s.line i := rfl
@[simp] theorem State.line_setAssembly (s : State) (a : Assembly) (i : LineIx) :
    (s.setAssembly a).line i = s.line i := rfl
@[simp] theorem State.line_unhand (s : State) (c : Instr) (i : LineIx) :
    (s.unhand c).line i = s.line i := rfl
@[simp] theorem State.line_setPriority (s : State) (r : RoomIx) (x : Bool) (i : LineIx) :
    (s.setPriority r x).line i = s.line i := rfl
@[simp] theorem State.line_nameRoom (s : State) (r : RoomIx) (i : LineIx) :
    (s.nameRoom r).line i = s.line i := rfl
@[simp] theorem State.line_markFreed (s : State) (p : SpurIx) (i : LineIx) :
    (s.markFreed p).line i = s.line i := rfl
@[simp] theorem State.line_dropEntry (s : State) (a : Addr) (i : LineIx) :
    (s.dropEntry a).line i = s.line i := rfl
@[simp] theorem State.line_setPhase (s : State) (p : Phase) (i : LineIx) :
    (s.setPhase p).line i = s.line i := rfl
@[simp] theorem State.line_setFlag (s : State) (x : Bool) (i : LineIx) :
    (s.setFlag x).line i = s.line i := rfl
@[simp] theorem State.line_setProfile (s : State) (e : EntryIx) (x : Option Profile) (i : LineIx) :
    (s.setProfile e x).line i = s.line i := rfl
@[simp] theorem State.line_setCode (s : State) (l : ChanIx) (c : Lang) (i : LineIx) :
    (s.setCode l c).line i = s.line i := rfl
@[simp] theorem State.wall_updStation (s : State) (a : Addr) (f : Station → Station) (i : WallIx) :
    (s.updStation a f).wall i = s.wall i := rfl
@[simp] theorem State.wall_updSpur (s : State) (p : SpurIx) (f : Spur → Spur) (i : WallIx) :
    (s.updSpur p f).wall i = s.wall i := rfl
@[simp] theorem State.wall_updRoom (s : State) (r : RoomIx) (f : Room → Room) (i : WallIx) :
    (s.updRoom r f).wall i = s.wall i := rfl
@[simp] theorem State.wall_updLine (s : State) (l : LineIx) (f : Line → Line) (i : WallIx) :
    (s.updLine l f).wall i = s.wall i := rfl
@[simp] theorem State.wall_updBooth (s : State) (b : BoothIx) (f : Booth → Booth) (i : WallIx) :
    (s.updBooth b f).wall i = s.wall i := rfl
@[simp] theorem State.wall_place (s : State) (r : Report) (i : WallIx) :
    (s.place r).wall i = s.wall i := rfl
@[simp] theorem State.wall_setAssembly (s : State) (a : Assembly) (i : WallIx) :
    (s.setAssembly a).wall i = s.wall i := rfl
@[simp] theorem State.wall_unhand (s : State) (c : Instr) (i : WallIx) :
    (s.unhand c).wall i = s.wall i := rfl
@[simp] theorem State.wall_setPriority (s : State) (r : RoomIx) (x : Bool) (i : WallIx) :
    (s.setPriority r x).wall i = s.wall i := rfl
@[simp] theorem State.wall_nameRoom (s : State) (r : RoomIx) (i : WallIx) :
    (s.nameRoom r).wall i = s.wall i := rfl
@[simp] theorem State.wall_markFreed (s : State) (p : SpurIx) (i : WallIx) :
    (s.markFreed p).wall i = s.wall i := rfl
@[simp] theorem State.wall_dropEntry (s : State) (a : Addr) (i : WallIx) :
    (s.dropEntry a).wall i = s.wall i := rfl
@[simp] theorem State.wall_setPhase (s : State) (p : Phase) (i : WallIx) :
    (s.setPhase p).wall i = s.wall i := rfl
@[simp] theorem State.wall_setFlag (s : State) (x : Bool) (i : WallIx) :
    (s.setFlag x).wall i = s.wall i := rfl
@[simp] theorem State.wall_setProfile (s : State) (e : EntryIx) (x : Option Profile) (i : WallIx) :
    (s.setProfile e x).wall i = s.wall i := rfl
@[simp] theorem State.wall_setCode (s : State) (l : ChanIx) (c : Lang) (i : WallIx) :
    (s.setCode l c).wall i = s.wall i := rfl
@[simp] theorem State.booth_updStation (s : State) (a : Addr) (f : Station → Station) (i : BoothIx) :
    (s.updStation a f).booth i = s.booth i := rfl
@[simp] theorem State.booth_updSpur (s : State) (p : SpurIx) (f : Spur → Spur) (i : BoothIx) :
    (s.updSpur p f).booth i = s.booth i := rfl
@[simp] theorem State.booth_updRoom (s : State) (r : RoomIx) (f : Room → Room) (i : BoothIx) :
    (s.updRoom r f).booth i = s.booth i := rfl
@[simp] theorem State.booth_updLine (s : State) (l : LineIx) (f : Line → Line) (i : BoothIx) :
    (s.updLine l f).booth i = s.booth i := rfl
@[simp] theorem State.booth_updWall (s : State) (w : WallIx) (f : Wall → Wall) (i : BoothIx) :
    (s.updWall w f).booth i = s.booth i := rfl
@[simp] theorem State.booth_place (s : State) (r : Report) (i : BoothIx) :
    (s.place r).booth i = s.booth i := rfl
@[simp] theorem State.booth_setAssembly (s : State) (a : Assembly) (i : BoothIx) :
    (s.setAssembly a).booth i = s.booth i := rfl
@[simp] theorem State.booth_unhand (s : State) (c : Instr) (i : BoothIx) :
    (s.unhand c).booth i = s.booth i := rfl
@[simp] theorem State.booth_setPriority (s : State) (r : RoomIx) (x : Bool) (i : BoothIx) :
    (s.setPriority r x).booth i = s.booth i := rfl
@[simp] theorem State.booth_nameRoom (s : State) (r : RoomIx) (i : BoothIx) :
    (s.nameRoom r).booth i = s.booth i := rfl
@[simp] theorem State.booth_markFreed (s : State) (p : SpurIx) (i : BoothIx) :
    (s.markFreed p).booth i = s.booth i := rfl
@[simp] theorem State.booth_dropEntry (s : State) (a : Addr) (i : BoothIx) :
    (s.dropEntry a).booth i = s.booth i := rfl
@[simp] theorem State.booth_setPhase (s : State) (p : Phase) (i : BoothIx) :
    (s.setPhase p).booth i = s.booth i := rfl
@[simp] theorem State.booth_setFlag (s : State) (x : Bool) (i : BoothIx) :
    (s.setFlag x).booth i = s.booth i := rfl
@[simp] theorem State.booth_setProfile (s : State) (e : EntryIx) (x : Option Profile) (i : BoothIx) :
    (s.setProfile e x).booth i = s.booth i := rfl
@[simp] theorem State.booth_setCode (s : State) (l : ChanIx) (c : Lang) (i : BoothIx) :
    (s.setCode l c).booth i = s.booth i := rfl
@[simp] theorem State.channel_updStation (s : State) (a : Addr) (f : Station → Station) (i : ChanIx) :
    (s.updStation a f).channel i = s.channel i := rfl
@[simp] theorem State.channel_updSpur (s : State) (p : SpurIx) (f : Spur → Spur) (i : ChanIx) :
    (s.updSpur p f).channel i = s.channel i := rfl
@[simp] theorem State.channel_updRoom (s : State) (r : RoomIx) (f : Room → Room) (i : ChanIx) :
    (s.updRoom r f).channel i = s.channel i := rfl
@[simp] theorem State.channel_updLine (s : State) (l : LineIx) (f : Line → Line) (i : ChanIx) :
    (s.updLine l f).channel i = s.channel i := rfl
@[simp] theorem State.channel_updWall (s : State) (w : WallIx) (f : Wall → Wall) (i : ChanIx) :
    (s.updWall w f).channel i = s.channel i := rfl
@[simp] theorem State.channel_updBooth (s : State) (b : BoothIx) (f : Booth → Booth) (i : ChanIx) :
    (s.updBooth b f).channel i = s.channel i := rfl
@[simp] theorem State.channel_place (s : State) (r : Report) (i : ChanIx) :
    (s.place r).channel i = s.channel i := rfl
@[simp] theorem State.channel_setAssembly (s : State) (a : Assembly) (i : ChanIx) :
    (s.setAssembly a).channel i = s.channel i := rfl
@[simp] theorem State.channel_unhand (s : State) (c : Instr) (i : ChanIx) :
    (s.unhand c).channel i = s.channel i := rfl
@[simp] theorem State.channel_setPriority (s : State) (r : RoomIx) (x : Bool) (i : ChanIx) :
    (s.setPriority r x).channel i = s.channel i := rfl
@[simp] theorem State.channel_nameRoom (s : State) (r : RoomIx) (i : ChanIx) :
    (s.nameRoom r).channel i = s.channel i := rfl
@[simp] theorem State.channel_markFreed (s : State) (p : SpurIx) (i : ChanIx) :
    (s.markFreed p).channel i = s.channel i := rfl
@[simp] theorem State.channel_dropEntry (s : State) (a : Addr) (i : ChanIx) :
    (s.dropEntry a).channel i = s.channel i := rfl
@[simp] theorem State.channel_setPhase (s : State) (p : Phase) (i : ChanIx) :
    (s.setPhase p).channel i = s.channel i := rfl
@[simp] theorem State.channel_setFlag (s : State) (x : Bool) (i : ChanIx) :
    (s.setFlag x).channel i = s.channel i := rfl
@[simp] theorem State.channel_setProfile (s : State) (e : EntryIx) (x : Option Profile) (i : ChanIx) :
    (s.setProfile e x).channel i = s.channel i := rfl
@[simp] theorem State.room_updStation (s : State) (a : Addr) (f : Station → Station) (i : RoomIx) :
    (s.updStation a f).room i = s.room i := rfl
@[simp] theorem State.room_updSpur (s : State) (p : SpurIx) (f : Spur → Spur) (i : RoomIx) :
    (s.updSpur p f).room i = s.room i := rfl
@[simp] theorem State.room_updLine (s : State) (l : LineIx) (f : Line → Line) (i : RoomIx) :
    (s.updLine l f).room i = s.room i := rfl
@[simp] theorem State.room_updWall (s : State) (w : WallIx) (f : Wall → Wall) (i : RoomIx) :
    (s.updWall w f).room i = s.room i := rfl
@[simp] theorem State.room_updBooth (s : State) (b : BoothIx) (f : Booth → Booth) (i : RoomIx) :
    (s.updBooth b f).room i = s.room i := rfl
@[simp] theorem State.room_place (s : State) (r : Report) (i : RoomIx) :
    (s.place r).room i = s.room i := rfl
@[simp] theorem State.room_setAssembly (s : State) (a : Assembly) (i : RoomIx) :
    (s.setAssembly a).room i = s.room i := rfl
@[simp] theorem State.room_unhand (s : State) (c : Instr) (i : RoomIx) :
    (s.unhand c).room i = s.room i := rfl
@[simp] theorem State.room_setPriority (s : State) (r : RoomIx) (x : Bool) (i : RoomIx) :
    (s.setPriority r x).room i = s.room i := rfl
@[simp] theorem State.room_nameRoom (s : State) (r : RoomIx) (i : RoomIx) :
    (s.nameRoom r).room i = s.room i := rfl
@[simp] theorem State.room_markFreed (s : State) (p : SpurIx) (i : RoomIx) :
    (s.markFreed p).room i = s.room i := rfl
@[simp] theorem State.room_dropEntry (s : State) (a : Addr) (i : RoomIx) :
    (s.dropEntry a).room i = s.room i := rfl
@[simp] theorem State.room_setPhase (s : State) (p : Phase) (i : RoomIx) :
    (s.setPhase p).room i = s.room i := rfl
@[simp] theorem State.room_setFlag (s : State) (x : Bool) (i : RoomIx) :
    (s.setFlag x).room i = s.room i := rfl
@[simp] theorem State.room_setProfile (s : State) (e : EntryIx) (x : Option Profile) (i : RoomIx) :
    (s.setProfile e x).room i = s.room i := rfl
@[simp] theorem State.room_setCode (s : State) (l : ChanIx) (c : Lang) (i : RoomIx) :
    (s.setCode l c).room i = s.room i := rfl

@[simp] theorem State.station_updStation_self (s : State) (a : Addr) (f : Station → Station) :
    (s.updStation a f).station a = f (s.station a) := Tab.get_modify_self _ _ _

theorem State.station_updStation_ne (s : State) {a i : Addr} (f : Station → Station) (h : i ≠ a) :
    (s.updStation a f).station i = s.station i := Tab.get_modify_ne _ _ h

theorem State.station_updStation (s : State) (a i : Addr) (f : Station → Station) :
    (s.updStation a f).station i = if i = a then f (s.station i) else s.station i := Tab.get_modify _ _ _ _

@[simp] theorem State.spur_updSpur_self (s : State) (p : SpurIx) (f : Spur → Spur) :
    (s.updSpur p f).spur p = f (s.spur p) := Tab.get_modify_self _ _ _

theorem State.spur_updSpur_ne (s : State) {p i : SpurIx} (f : Spur → Spur) (h : i ≠ p) :
    (s.updSpur p f).spur i = s.spur i := Tab.get_modify_ne _ _ h

theorem State.spur_updSpur (s : State) (p i : SpurIx) (f : Spur → Spur) :
    (s.updSpur p f).spur i = if i = p then f (s.spur i) else s.spur i := Tab.get_modify _ _ _ _

@[simp] theorem State.line_updLine_self (s : State) (l : LineIx) (f : Line → Line) :
    (s.updLine l f).line l = f (s.line l) := Tab.get_modify_self _ _ _

theorem State.line_updLine_ne (s : State) {l i : LineIx} (f : Line → Line) (h : i ≠ l) :
    (s.updLine l f).line i = s.line i := Tab.get_modify_ne _ _ h

theorem State.line_updLine (s : State) (l i : LineIx) (f : Line → Line) :
    (s.updLine l f).line i = if i = l then f (s.line i) else s.line i := Tab.get_modify _ _ _ _

@[simp] theorem State.wall_updWall_self (s : State) (w : WallIx) (f : Wall → Wall) :
    (s.updWall w f).wall w = f (s.wall w) := Tab.get_modify_self _ _ _

theorem State.wall_updWall_ne (s : State) {w i : WallIx} (f : Wall → Wall) (h : i ≠ w) :
    (s.updWall w f).wall i = s.wall i := Tab.get_modify_ne _ _ h

theorem State.wall_updWall (s : State) (w i : WallIx) (f : Wall → Wall) :
    (s.updWall w f).wall i = if i = w then f (s.wall i) else s.wall i := Tab.get_modify _ _ _ _

@[simp] theorem State.booth_updBooth_self (s : State) (b : BoothIx) (f : Booth → Booth) :
    (s.updBooth b f).booth b = f (s.booth b) := Tab.get_modify_self _ _ _

theorem State.booth_updBooth_ne (s : State) {b i : BoothIx} (f : Booth → Booth) (h : i ≠ b) :
    (s.updBooth b f).booth i = s.booth i := Tab.get_modify_ne _ _ h

theorem State.booth_updBooth (s : State) (b i : BoothIx) (f : Booth → Booth) :
    (s.updBooth b f).booth i = if i = b then f (s.booth i) else s.booth i := Tab.get_modify _ _ _ _

@[simp] theorem State.room_updRoom_self (s : State) (r : RoomIx) (f : Room → Room) :
    (s.updRoom r f).room r = f (s.room r) := Tab.get_modify_self _ _ _

theorem State.room_updRoom_ne (s : State) {r i : RoomIx} (f : Room → Room) (h : i ≠ r) :
    (s.updRoom r f).room i = s.room i := Tab.get_modify_ne _ _ h

theorem State.room_updRoom (s : State) (r i : RoomIx) (f : Room → Room) :
    (s.updRoom r f).room i = if i = r then f (s.room i) else s.room i := Tab.get_modify _ _ _ _

/-! ## Pool, priority and the rooms of the advance pass -/

@[simp] theorem State.floor_setPriority (s : State) (r : RoomIx) (x : Bool) :
    (s.setPriority r x).floor = { s.floor with priority := s.floor.priority.set r x } := rfl
@[simp] theorem State.floor_nameRoom (s : State) (r : RoomIx) :
    (s.nameRoom r).floor = { s.floor with named := s.floor.named ++ [r] } := rfl
@[simp] theorem State.floor_markFreed (s : State) (p : SpurIx) :
    (s.markFreed p).floor = { s.floor with freed := s.floor.freed ++ [p] } := rfl
@[simp] theorem State.floor_dropEntry (s : State) (a : Addr) :
    (s.dropEntry a).floor = { s.floor with pool := s.floor.pool.filter fun e => e.addr != a } := rfl

/-! ## Restarted counts -/

@[simp] theorem Station.restartCounts_mic (r : Station) : r.restartCounts.mic = r.mic := rfl
@[simp] theorem Station.restartCounts_talk (r : Station) : r.restartCounts.talk = r.talk := rfl
@[simp] theorem Station.restartCounts_stamp (r : Station) : r.restartCounts.stamp = r.stamp := rfl
@[simp] theorem Station.restartCounts_state (r : Station) : r.restartCounts.state = r.state := rfl
@[simp] theorem Station.restartCounts_spur (r : Station) : r.restartCounts.spur = r.spur := rfl
@[simp] theorem Station.restartCounts_sec (r : Station) : r.restartCounts.sec = r.sec := rfl
@[simp] theorem Station.restartCounts_kind (r : Station) : r.restartCounts.kind = r.kind := rfl
@[simp] theorem Station.restartCounts_held (r : Station) : r.restartCounts.held = r.held := rfl
@[simp] theorem Station.restartCounts_seconds (r : Station) : r.restartCounts.seconds = 0 := rfl
@[simp] theorem Station.restartCounts_subFrames (r : Station) : r.restartCounts.subFrames = 0 := rfl
@[simp] theorem Station.restartCounts_silence (r : Station) : r.restartCounts.silence = 0 := rfl
@[simp] theorem Station.restartCounts_warning (r : Station) : r.restartCounts.warning = false := rfl

end Sys2Proof.Machine
end

