-- ==== Sys2Proof/Laws/Report.lean ====
section
/-! SUPPORT. What placing a report does (R186): the queue grows by it or keeps its reports, and nothing else of the lane
changes. -/

namespace Sys2Proof.Machine

@[simp] theorem markNewest_length (qs : List QueuedReport) : (markNewest qs).length = qs.length := by
  induction qs with
  | nil => rfl
  | cons q qs ih =>
    cases qs with
    | nil => rfl
    | cons q' qs => simpa [markNewest] using ih

@[simp] theorem markNewest_reports (qs : List QueuedReport) :
    (markNewest qs).map QueuedReport.report = qs.map QueuedReport.report := by
  induction qs with
  | nil => rfl
  | cons q qs ih =>
    cases qs with
    | nil => rfl
    | cons q' qs => simpa [markNewest] using ih

@[simp] theorem LaneUnit.place_assembly (r : Report) (l : LaneUnit) : (l.place r).assembly = l.assembly := by
  unfold LaneUnit.place; split <;> rfl
@[simp] theorem LaneUnit.place_stray (r : Report) (l : LaneUnit) : (l.place r).stray = l.stray := by
  unfold LaneUnit.place; split <;> rfl
@[simp] theorem LaneUnit.place_directives (r : Report) (l : LaneUnit) : (l.place r).directives = l.directives := by
  unfold LaneUnit.place; split <;> rfl
@[simp] theorem LaneUnit.place_overrun (r : Report) (l : LaneUnit) : (l.place r).overrun = l.overrun := by
  unfold LaneUnit.place; split <;> rfl
@[simp] theorem LaneUnit.place_sent (r : Report) (l : LaneUnit) : (l.place r).sent = l.sent := by
  unfold LaneUnit.place; split <;> rfl
@[simp] theorem LaneUnit.place_reserved (r : Report) (l : LaneUnit) : (l.place r).reserved = l.reserved := by
  unfold LaneUnit.place; split <;> rfl

/-- The room for reports is kept by placing one. -/
@[simp] theorem LaneUnit.place_reportRoom (r : Report) (l : LaneUnit) : (l.place r).reportRoom = l.reportRoom := by
  simp [LaneUnit.reportRoom]

/-- A report that finds room is the newest report. -/
theorem LaneUnit.place_of_room {r : Report} {l : LaneUnit} (h : l.reports.length < l.reportRoom) :
    (l.place r).reports.map QueuedReport.report = l.reports.map QueuedReport.report ++ [r] := by
  simp [LaneUnit.place, h]

/-- A report that finds no room leaves the reports of the queue as they were. -/
theorem LaneUnit.place_of_full {r : Report} {l : LaneUnit} (h : l.reportRoom ≤ l.reports.length) :
    (l.place r).reports.map QueuedReport.report = l.reports.map QueuedReport.report := by
  simp [LaneUnit.place, Nat.not_lt.mpr h]

/-- The queue keeps within the room it had, or as it was beyond it. -/
theorem LaneUnit.place_length (r : Report) (l : LaneUnit) :
    (l.place r).reports.length = if l.reports.length < l.reportRoom then l.reports.length + 1
      else l.reports.length := by
  unfold LaneUnit.place; split <;> simp

/-- Placing a report keeps a queue within its size. -/
theorem LaneUnit.place_inBounds {r : Report} {l : LaneUnit} (h : l.inBounds) : (l.place r).inBounds := by
  obtain ⟨h1, h2, h3, h4⟩ := h
  refine ⟨?_, by simpa using h2, by simpa using h3, by simpa using h4⟩
  rw [LaneUnit.place_length]
  split
  · next hl => simp only [LaneUnit.reportRoom, h4] at hl; simpa using hl
  · exact h1

/-! ## In a state -/

theorem State.place_reportList {s : State} (r : Report) (h : s.hasReportRoom) :
    (s.place r).reportList = s.reportList ++ [r] :=
  LaneUnit.place_of_room h

/-- Placing a report only adds at the end of the queue. -/
theorem State.reportList_prefix_place (s : State) (r : Report) : s.reportList <+: (s.place r).reportList := by
  by_cases h : s.lane.reports.length < s.lane.reportRoom
  · exact ⟨[r], (LaneUnit.place_of_room h).symm⟩
  · exact ⟨[], by rw [List.append_nil]; exact (LaneUnit.place_of_full (Nat.not_lt.mp h)).symm⟩

theorem State.reportList_prefix_placeAll (s : State) (rs : List Report) :
    s.reportList <+: (s.placeAll rs).reportList := by
  induction rs generalizing s with
  | nil => exact List.prefix_rfl
  | cons r rs ih => exact (s.reportList_prefix_place r).trans (ih (s.place r))

end Sys2Proof.Machine
end

