-- ==== Sys2Proof/Laws/Core.lean ====
section
/-! SUPPORT. What the operations of the listening unit, the interpretation unit's evaluation, the station commands and
the reports can change, said once: they leave the core of a state as it was. The core is the state without its reports,
the waiting station commands, the listen-slot tables, the stations' lamps and listening fields, and the derived fields
of booths and channels. -/

namespace Sys2Proof.Machine

/-- A station record without its lamp and its listening fields. -/
def Station.core (r : Station) : Station :=
  { r with lamp := .off, resolved := none, listenSlot := none, degraded := false }

/-- A spur without its waiting station commands and its listen-slot table. -/
def Spur.core (p : Spur) : Spur :=
  { p with queue := [], hold := none, marks := [], listenSlots := .fill 16 none, unserved := [] }

/-- A booth without its derived fields. -/
def Booth.core (b : Booth) : Booth := { b with room := none, direct := false, input := .nothing, noRelay := false }

/-- A channel without its derived fields. -/
def Channel.core (c : Channel) : Channel := { c with room := none, state := .dark, parked := false }

/-- The core of a state. -/
def State.core (s : State) : State :=
  { s with
    stations := s.stations.map Station.core
    spurs := s.spurs.map Spur.core
    booths := s.booths.map Booth.core
    channels := s.channels.map Channel.core
    lane := { s.lane with reports := [] } }

/-! ## Reading the core -/

@[simp] theorem State.core_station (s : State) (a : Addr) : s.core.station a = (s.station a).core :=
  Tab.get_map _ _ _
@[simp] theorem State.core_spur (s : State) (p : SpurIx) : s.core.spur p = (s.spur p).core := Tab.get_map _ _ _
@[simp] theorem State.core_booth (s : State) (b : BoothIx) : s.core.booth b = (s.booth b).core := Tab.get_map _ _ _
@[simp] theorem State.core_channel (s : State) (l : ChanIx) : s.core.channel l = (s.channel l).core :=
  Tab.get_map _ _ _

/-- Two states of one core agree on every station record but for its lamp and its listening fields. -/
theorem station_core_of_core {s t : State} (h : t.core = s.core) (a : Addr) :
    (t.station a).core = (s.station a).core := by
  rw [← State.core_station, ← State.core_station, h]

theorem spur_core_of_core {s t : State} (h : t.core = s.core) (p : SpurIx) : (t.spur p).core = (s.spur p).core := by
  rw [← State.core_spur, ← State.core_spur, h]

theorem booth_core_of_core {s t : State} (h : t.core = s.core) (b : BoothIx) : (t.booth b).core = (s.booth b).core := by
  rw [← State.core_booth, ← State.core_booth, h]

theorem channel_core_of_core {s t : State} (h : t.core = s.core) (l : ChanIx) :
    (t.channel l).core = (s.channel l).core := by
  rw [← State.core_channel, ← State.core_channel, h]

/-- The registry's fields and the floor's fields of a record are in its core. -/
theorem Station.frames_of_core {x y : Station} (h : y.core = x.core) : x.sameFloor y ∧ ∀ (_ : y.listen = x.listen),
    x.sameIdentity y := by
  cases x; cases y
  simp only [Station.core, Station.mk.injEq] at h
  simp_all [Station.sameFloor, Station.sameIdentity]

theorem Spur.sameInterface_of_core {x y : Spur} (h : y.core = x.core) :
    x.sameInterface y ∧ y.talkSlots = x.talkSlots := by
  cases x; cases y
  simp only [Spur.core, Spur.mk.injEq] at h
  simp_all [Spur.sameInterface]

/-- What lies outside the tables of the core is in it. -/
theorem settings_of_core {s t : State} (h : t.core = s.core) :
    s.sameSettings t ∧ t.map = s.map ∧ t.floor = s.floor ∧ t.handed = s.handed ∧ s.sameLane t := by
  have f : ∀ {α : Type} (view : State → α), view t.core = view s.core := fun view => congrArg view h
  have g := f State.lane
  simp only [State.core, LaneUnit.mk.injEq] at g
  refine ⟨⟨f State.pending, f State.trunk, f State.bindings, f State.pollSpacing, f State.lostHold, f State.lines,
    f State.sections, f State.walls, f State.override, f State.mix⟩, f State.map, f State.floor, f State.handed, ?_⟩
  unfold State.sameLane
  generalize t.lane = x at *
  generalize s.lane = y at *
  cases x; cases y
  simp_all

/-! ## What the floor derives is derived from the core -/

@[simp] theorem State.core_stationRoom (s : State) (a : Addr) : s.core.stationRoom a = s.stationRoom a := by
  simp only [State.stationRoom, State.core_station]; rfl

@[simp] theorem State.core_isChair (s : State) (r : RoomIx) (a : Addr) : s.core.isChair r a = s.isChair r a := by
  simp only [State.isChair, State.core_station, State.core_stationRoom]; rfl

@[simp] theorem State.core_overrideActive (s : State) : s.core.overrideActive = s.overrideActive := rfl
@[simp] theorem State.core_underChangeover (s : State) (r : RoomIx) :
    s.core.underChangeover r = s.underChangeover r := rfl
@[simp] theorem State.core_active (s : State) (r : RoomIx) : s.core.active r = s.active r := rfl
@[simp] theorem State.core_room (s : State) (r : RoomIx) : s.core.room r = s.room r := rfl
@[simp] theorem State.core_floor (s : State) : s.core.floor = s.floor := rfl

@[simp] theorem State.core_speakers (s : State) (r : RoomIx) : s.core.speakers r = s.speakers r := by
  have h1 : ∀ a, s.core.grantOrder a = s.grantOrder a := fun a => by
    simp only [State.grantOrder, State.core_station]; rfl
  have h2 : ∀ a, (s.core.station a).mic = (s.station a).mic := fun a => by rw [State.core_station]; rfl
  simp only [State.speakers, State.byGrant, h1, h2, State.core_stationRoom]

@[simp] theorem State.core_delegates (s : State) (r : RoomIx) : s.core.delegates r = s.delegates r := by
  simp only [State.delegates, State.core_speakers, State.core_isChair]

@[simp] theorem State.core_delegateCount (s : State) (r : RoomIx) : s.core.delegateCount r = s.delegateCount r := by
  simp only [State.delegateCount, State.core_delegates]

@[simp] theorem State.core_queue (s : State) (r : RoomIx) : s.core.queue r = s.queue r := by
  have h1 : ∀ a, s.core.grantOrder a = s.grantOrder a := fun a => by
    simp only [State.grantOrder, State.core_station]; rfl
  have h2 : s.core.queueBefore = s.queueBefore := by
    funext x y; simp only [State.queueBefore, h1]
  simp only [State.queue, h2, State.core_stationRoom, State.core_floor]

@[simp] theorem State.core_head (s : State) (r : RoomIx) : s.core.head r = s.head r := by
  simp only [State.head, State.core_queue]

@[simp] theorem State.core_hasFreeTalk (s : State) (p : SpurIx) : s.core.hasFreeTalk p = s.hasFreeTalk p := by
  simp only [State.hasFreeTalk, State.core_spur]; rfl

@[simp] theorem State.core_floorLamp (s : State) (a : Addr) : s.core.floorLamp a = s.floorLamp a := by
  simp only [State.floorLamp, State.core_station, State.core_stationRoom, State.core_isChair, State.core_head,
    State.core_overrideActive, State.core_floor]
  rfl

@[simp] theorem State.core_standsOn (s : State) (a : Addr) : s.core.standsOn a = s.standsOn a := by
  simp only [State.standsOn, State.core_booth]; rfl

/-! ## Operations that keep the core -/

@[simp] theorem State.core_place (s : State) (r : Report) : (s.place r).core = s.core := by
  simp only [State.core, State.place, LaneUnit.place]
  split <;> rfl

@[simp] theorem State.core_placeAll (s : State) (rs : List Report) : (s.placeAll rs).core = s.core :=
  foldl_same State.core State.place rs s fun _ _ => State.core_place _ _

/-- A change of a station record that its core does not show. -/
theorem State.core_updStation {s : State} {a : Addr} {f : Station → Station} (h : ∀ x, (f x).core = x.core) :
    (s.updStation a f).core = s.core := by
  simp only [State.core, State.updStation, Tab.map_modify _ _ _ _ h]

/-- A change of a spur that its core does not show. -/
theorem State.core_updSpur {s : State} {p : SpurIx} {f : Spur → Spur} (h : ∀ x, (f x).core = x.core) :
    (s.updSpur p f).core = s.core := by
  simp only [State.core, State.updSpur, Tab.map_modify _ _ _ _ h]

@[simp] theorem Station.core_noteLamp (b : CommandBody) (x : Station) : (x.noteLamp b).core = x.core := by
  cases b <;> rfl

@[simp] theorem Spur.core_offer (a : Addr) (b : CommandBody) (x : Spur) : (x.offer a b).core = x.core := by
  unfold Spur.offer
  repeat' split
  all_goals rfl

/-- Offering a command changes the lamp of a record and the commands that wait, and nothing else (R25 to R28). -/
@[simp] theorem State.core_offer (s : State) (a : Addr) (b : CommandBody) : (s.offer a b).core = s.core := by
  unfold State.offer
  split
  · rw [State.core_updSpur (Spur.core_offer a b), State.core_updStation (Station.core_noteLamp b)]
  · rfl

@[simp] theorem State.core_offerLamp (s : State) (a : Addr) (l : Lamp) : (s.offerLamp a l).core = s.core :=
  State.core_offer _ _ _

@[simp] theorem State.core_offerFloorLamp (s : State) (a : Addr) : (s.offerFloorLamp a).core = s.core :=
  State.core_offer _ _ _

@[simp] theorem State.core_offerIfChanged (s before : State) (a : Addr) : (s.offerIfChanged before a).core = s.core := by
  unfold State.offerIfChanged; split <;> simp

@[simp] theorem State.core_relampFormer (s before : State) (r : RoomIx) : (s.relampFormer before r).core = s.core := by
  unfold State.relampFormer; repeat' split
  all_goals simp

@[simp] theorem State.core_relampHead (s before : State) (r : RoomIx) : (s.relampHead before r).core = s.core := by
  unfold State.relampHead
  split
  · rfl
  · dsimp only
    rw [State.core_relampFormer]
    split <;> simp

/-- A refused press changes lamps, commands and reports only (R78, R85, R92). -/
@[simp] theorem State.core_refusePress (s : State) (a : Addr) (r : RoomIx) (x : Reason) :
    (s.refusePress a r x).core = s.core := by
  simp [State.refusePress]

/-! ## The listening unit keeps the core -/

@[simp] theorem State.core_resolveStation (s : State) (a : Addr) : (s.resolveStation a).core = s.core :=
  State.core_updStation fun _ => rfl

@[simp] theorem State.core_resolveAll (s : State) : s.resolveAll.core = s.core := by
  have h : (Tab.ofFn fun a => if (s.station a).state == .present then { s.station a with resolved := s.resolve a }
      else s.station a).map Station.core = s.stations.map Station.core := by
    apply Tab.ext_get
    intro a
    simp only [Tab.get_map, Tab.get_ofFn]
    split <;> rfl
  simp only [State.core, State.resolveAll, h]

@[simp] theorem State.core_tuneStation (t : ListenTable) (a : Addr) (s : State) : (tuneStation t a s).core = s.core := by
  unfold tuneStation
  dsimp only
  split
  · rfl
  · rw [State.core_offer]; exact State.core_updStation fun _ => rfl

/-- A refresh changes the listening unit's fields, the commands that wait and the reports, and nothing else. -/
@[simp] theorem State.core_refresh (s : State) (p : SpurIx) : (s.refresh p).core = s.core := by
  have fold : ∀ (t : ListenTable) (as : List Addr) (s : State),
      (as.foldl (fun s a => tuneStation t a s) s).core = s.core := fun t as s =>
    foldl_same State.core (fun s a => tuneStation t a s) as s fun _ _ => State.core_tuneStation _ _ _
  unfold State.refresh
  dsimp only
  split
  · rw [fold]; exact State.core_updSpur fun _ => rfl
  · rw [State.core_place, fold]; exact State.core_updSpur fun _ => rfl

@[simp] theorem State.core_listenTo (s : State) (a : Addr) : (s.listenTo a).core = s.core := by
  simp [State.listenTo]

@[simp] theorem State.core_listenEvaluation (s : State) : s.listenEvaluation.core = s.core := by
  unfold State.listenEvaluation
  dsimp only
  rw [foldl_same State.core State.refresh _ _ fun _ _ => State.core_refresh _ _, State.core_resolveAll]

@[simp] theorem State.core_listenSwap (s : State) : s.listenSwap.core = s.core := by
  unfold State.listenSwap
  rw [foldl_same State.core State.refresh _ _ fun _ _ => State.core_refresh _ _, State.core_resolveAll]

@[simp] theorem State.core_listenLoss (s : State) (a : Addr) : (s.listenLoss a).core = s.core := by
  unfold State.listenLoss
  rw [State.core_refresh]; exact State.core_updStation fun _ => rfl

/-! ## An evaluation keeps the core -/

theorem State.core_booths {s : State} {bs : Tab 8 Booth} (h : ∀ b, (bs.get b).core = (s.booth b).core) :
    State.core { s with booths := bs } = s.core := by
  have : bs.map Booth.core = s.booths.map Booth.core := Tab.ext_get fun b => by
    simp only [Tab.get_map]; exact h b
  simp only [State.core, this]

theorem State.core_channels {s : State} {cs : Tab 12 Channel} (h : ∀ l, (cs.get l).core = (s.channel l).core) :
    State.core { s with channels := cs } = s.core := by
  have : cs.map Channel.core = s.channels.map Channel.core := Tab.ext_get fun l => by
    simp only [Tab.get_map]; exact h l
  simp only [State.core, this]

@[simp] theorem State.core_derive (s : State) : s.derive.core = s.core := by
  have h1 : s.evalBoothRooms.core = s.core := State.core_booths fun b => by rw [Tab.get_ofFn]; rfl
  have h2 : ∀ t : State, t.evalChannels.core = t.core := fun t => State.core_channels fun l => by
    rw [Tab.get_ofFn]; rfl
  have h3 : ∀ t : State, t.evalParking.core = t.core := fun t => State.core_channels fun l => by
    rw [Tab.get_ofFn]; rfl
  have h4 : ∀ t : State, t.evalInputs.core = t.core := fun t => State.core_booths fun b => by
    rw [Tab.get_ofFn]; rfl
  rw [State.derive, h4, h3, h2, h1]

/-- An evaluation changes derived fields, lamps, listening, commands and reports, and nothing else (R114). -/
@[simp] theorem State.core_evaluate (s event : State) (cause : Reason) : (s.evaluate event cause).core = s.core := by
  have fold : ∀ (d : State) (as : List Addr) (t : State),
      (as.foldl (fun t a => t.offerLamp a (d.consoleLamp a)) t).core = t.core := fun d as t =>
    foldl_same State.core (fun t a => t.offerLamp a (d.consoleLamp a)) as t fun _ _ => State.core_offerLamp _ _ _
  unfold State.evaluate
  dsimp only
  split
  · rw [State.core_listenEvaluation, fold, State.core_placeAll, State.core_derive]
  · rw [fold, State.core_placeAll, State.core_derive]

@[simp] theorem State.core_refuseConsole (s : State) (a : Addr) (o : Output) (x : Reason) :
    (s.refuseConsole a o x).core = s.core := by
  unfold State.refuseConsole
  dsimp only
  rw [State.core_place]
  split <;> simp

end Sys2Proof.Machine
end

