-- ==== Sys2Proof/Laws/Floor.lean ====
section
/-! SUPPORT. What the floor controller's shared operations do, each said once up to lamps, waiting commands, reports and
listening (the core of Laws/Core.lean): a claim and a free of a talk slot (R77), a grant (R88), a close (R89), an entry
added to the pool and a removal from it (R78). -/

namespace Sys2Proof.Machine

/-! ## Updates and the core -/

/-- A change of a record that commutes with taking its core. -/
theorem State.core_updStation_comm {s : State} {a : Addr} {f : Station → Station}
    (h : ∀ x, (f x).core = f x.core) : (s.updStation a f).core = s.core.updStation a f := by
  simp only [State.core, State.updStation, Tab.map_modify_comm _ _ _ _ _ h]

theorem State.core_updSpur_comm {s : State} {p : SpurIx} {f : Spur → Spur} (h : ∀ x, (f x).core = f x.core) :
    (s.updSpur p f).core = s.core.updSpur p f := by
  simp only [State.core, State.updSpur, Tab.map_modify_comm _ _ _ _ _ h]

theorem State.core_updRoom (s : State) (r : RoomIx) (f : Room → Room) :
    (s.updRoom r f).core = s.core.updRoom r f := rfl

/-- Two states of one core, one record of each changed alike, are of one core. -/
theorem State.core_updStation_congr {s t : State} {a : Addr} {f : Station → Station} (h : ∀ x, (f x).core = f x.core)
    (e : t.core = s.core) : (t.updStation a f).core = (s.updStation a f).core := by
  rw [State.core_updStation_comm h, State.core_updStation_comm h, e]

/-! ## Talk slots (R77) -/

/-- A claim by a station without a slot, on a spur whose lowest free slot is k, gives it that slot and starts its
envelope from 0. -/
theorem State.core_claim {s : State} {a : Addr} {k : SlotIx} (ht : (s.station a).talk = none)
    (hf : (s.spur (s.station a).spur).freeTalk = some k) :
    (s.claim a).core =
      ((s.updSpur (s.station a).spur fun p => { p with talkSlots := p.talkSlots.set k (some a) }).updStation a
        fun r => { r with talk := some k, envelope := 0 }).core := by
  simp only [State.claim, ht, hf, State.core_offer]

/-- A station that holds a slot claims nothing. -/
theorem State.claim_of_held {s : State} {a : Addr} {k : SlotIx} (ht : (s.station a).talk = some k) : s.claim a = s := by
  simp [State.claim, ht]

/-- On a full spur a claim does nothing. -/
theorem State.claim_of_full {s : State} {a : Addr} (hf : (s.spur (s.station a).spur).freeTalk = none) :
    s.claim a = s := by
  unfold State.claim
  dsimp only
  split
  · next h => rw [hf] at h; cases h
  · rfl

/-- A free by a station that holds a slot clears the slot, its record's field and its envelope. -/
theorem State.core_free {s : State} {a : Addr} {k : SlotIx} (ht : (s.station a).talk = some k) :
    (s.free a).core =
      ((s.updSpur (s.station a).spur fun p => { p with talkSlots := p.talkSlots.set k none }).updStation a
        fun r => { r with talk := none, envelope := 0 }).core := by
  simp only [State.free, ht, State.core_offer]

theorem State.free_of_none {s : State} {a : Addr} (ht : (s.station a).talk = none) : s.free a = s := by
  simp [State.free, ht]

/-- What a claim leaves as it was beside the slot and the record: everything outside stations, spurs and lane. -/
theorem State.claim_frame (s : State) (a : Addr) :
    s.sameSettings (s.claim a) ∧ (s.claim a).map = s.map ∧ (s.claim a).floor = s.floor := by
  unfold State.claim
  dsimp only
  split
  · refine ⟨?_, ?_, ?_⟩
    · exact (settings_of_core (State.core_offer _ _ _)).1
    · exact (settings_of_core (State.core_offer _ _ _)).2.1
    · exact (settings_of_core (State.core_offer _ _ _)).2.2.1
  · exact ⟨⟨rfl, rfl, rfl, rfl, rfl, rfl, rfl, rfl, rfl, rfl⟩, rfl, rfl⟩

theorem State.free_frame (s : State) (a : Addr) :
    s.sameSettings (s.free a) ∧ (s.free a).map = s.map ∧ (s.free a).floor = s.floor := by
  unfold State.free
  dsimp only
  split
  · exact ⟨⟨rfl, rfl, rfl, rfl, rfl, rfl, rfl, rfl, rfl, rfl⟩, rfl, rfl⟩
  · refine ⟨?_, ?_, ?_⟩
    · exact (settings_of_core (State.core_offer _ _ _)).1
    · exact (settings_of_core (State.core_offer _ _ _)).2.1
    · exact (settings_of_core (State.core_offer _ _ _)).2.2.1

/-! ## Grants (R88) -/

/-- What a grant writes to the floor's state, before the floor language. -/
def State.granted (s : State) (a : Addr) : State :=
  let t : State := s.dropEntry a
  let t : State := { t with floor := { t.floor with grantStamp := s.floor.grantStamp + 1 } }
  let t : State := (t.updStation a fun x => { x with stamp := some s.floor.grantStamp }).claim a
  t.updStation a fun x => { x.restartCounts with mic := .onAir }

theorem State.core_followedLanguage (s : State) (r : RoomIx) (a : Addr) :
    s.core.followedLanguage r a = s.followedLanguage r a := by
  simp only [State.followedLanguage, State.core_station, State.core_room]; rfl

/-- A grant writes what `granted` writes, and the floor language where the room follows its speakers (R101); the rest of
it is lamps, reports, an evaluation and the listening that follows. -/
theorem State.core_grant {s : State} {a : Addr} {r : RoomIx} (h : s.stationRoom a = some r) (reason : Reason) :
    (s.grant a reason).core =
      (match (s.granted a).followedLanguage r a with
        | some c => (s.granted a).updRoom r fun x => { x with language := c }
        | none => s.granted a).core := by
  have hl : ((s.granted a).offerFloorLamp a).followedLanguage r a = (s.granted a).followedLanguage r a := by
    rw [← State.core_followedLanguage, State.core_offerFloorLamp, State.core_followedLanguage]
  rw [← hl]
  simp only [State.grant, h]
  change State.core (if (((s.granted a).offerFloorLamp a).followedLanguage r a).isSome = true then _ else _) = _
  cases e : ((s.granted a).offerFloorLamp a).followedLanguage r a with
  | none =>
    simp only [Option.isSome_none, Bool.false_eq_true, if_false]
    rw [State.core_relampHead, State.core_place]
    have e' := e
    unfold State.granted at e'
    dsimp only [State.dropEntry] at e' ⊢
    rw [e']
    exact State.core_offerFloorLamp _ _
  | some c =>
    simp only [Option.isSome_some, if_true]
    rw [State.core_evaluate, State.core_relampHead, State.core_place]
    have e' := e
    unfold State.granted at e'
    dsimp only [State.dropEntry] at e' ⊢
    rw [e']
    dsimp only
    rw [State.core_updRoom, State.core_updRoom, State.core_offerFloorLamp]
    rfl

/-- A station without a room is not granted. -/
theorem State.grant_of_none {s : State} {a : Addr} (h : s.stationRoom a = none) (reason : Reason) :
    s.grant a reason = s := by
  simp [State.grant, h]

/-! ## Closes (R89) -/

/-- What a close writes: the slot freed, the spur marked as freed and the room as closing for the advance pass, and the
record OFF with its counts at 0; it keeps its stamp only where the caller puts the station in the pool again (R105). -/
def State.closed (s : State) (a : Addr) (room : Option RoomIx) (reenter : Bool) : State :=
  let t : State := ((s.free a).markFreed (s.station a).spur).updStation a fun x =>
    { x.restartCounts with mic := .off, stamp := if reenter then x.stamp else none }
  match room with
  | some r => t.nameRoom r
  | none => t

theorem State.core_nameRoom (s : State) (r : RoomIx) : (s.nameRoom r).core = s.core.nameRoom r := rfl

/-- A close writes what `closed` writes; the rest of it is a lamp and a report. -/
theorem State.core_close (s : State) (a : Addr) (room : Option RoomIx) (reason : Reason) (reenter : Bool) :
    (s.close a room reason reenter).core = (s.closed a room reenter).core := by
  cases room <;> cases reenter <;>
    simp only [State.close, State.closed, State.core_nameRoom, State.core_place, State.core_offerLamp, if_true,
      Bool.false_eq_true, if_false]

/-! ## The excess over max open (R95, R100, R104, R105) -/

theorem excess_length (counted : List Addr) (limit : Nat) : (excess counted limit).length = counted.length - limit := by
  simp [excess]

/-- What is in the excess was counted. -/
theorem mem_of_mem_excess {counted : List Addr} {limit : Nat} {a : Addr} (h : a ∈ excess counted limit) :
    a ∈ counted :=
  List.mem_reverse.mp (List.mem_of_mem_take h)

/-- Within the limit there is no excess. -/
theorem excess_of_le {counted : List Addr} {limit : Nat} (h : counted.length ≤ limit) : excess counted limit = [] :=
  List.eq_nil_of_length_eq_zero (by rw [excess_length]; omega)

/-- A counted station outside the excess is one of those granted first, as many as the limit allows. -/
theorem excess_or_first {counted : List Addr} {limit : Nat} {a : Addr} (h : a ∈ counted) :
    a ∈ excess counted limit ∨ a ∈ counted.take limit := by
  have e : excess counted limit = (counted.drop limit).reverse := by
    rw [excess, List.take_reverse]
    exact congrArg List.reverse (List.drop_eq_drop_iff.mpr (by omega))
  rw [← List.take_append_drop limit counted, List.mem_append] at h
  rw [e, List.mem_reverse]
  exact h.symm

/-- Counted stations within max open are not closed. -/
theorem State.closeExcess_of_le {s : State} {r : RoomIx} {counted : List Addr}
    (h : counted.length ≤ (s.room r).maxOpen) : s.closeExcess r counted = s := by
  rw [State.closeExcess, excess_of_le h]
  rfl

/-- A property that the close of a counted station keeps, the close of the excess keeps. -/
theorem State.closeExcess_keeps (P : State → Prop) {s : State} {r : RoomIx} {counted : List Addr} (h : P s)
    (hclose : ∀ t, ∀ a ∈ counted, P t → P (t.close a (some r) .limit false)) : P (s.closeExcess r counted) :=
  foldl_keeps P _ _ s h fun t a ha ht => hclose t a (mem_of_mem_excess ha) ht

/-- A swap after which no ON_AIR station of a room has lost its chair drops and closes nobody there (R104 step 4). -/
theorem State.dropFormerChairs_of_none {s old : State} {r : RoomIx} (h : s.formerChairs old r = []) :
    s.dropFormerChairs old r = s := by
  simp [State.dropFormerChairs, h]

/-- A station that keeps its role, or is OFF, is left as it was by the roles of a swap (R104 step 4). -/
theorem State.swapNewChair_of_same {s old : State} {r : RoomIx} {a : Addr}
    (h : s.isChair r a = false ∨ old.wasChair a = true) : s.swapNewChair old r a = s := by
  rcases h with h | h <;> simp [State.swapNewChair, h]

/-! ## The pool (R78) -/

/-- An entry added to the pool takes the next request stamp, and its station is QUEUED. -/
theorem State.addEntry_floor (s : State) (a : Addr) (reentry : Bool) :
    (s.addEntry a reentry).floor =
      { s.floor with
        pool := s.floor.pool ++ [⟨a, s.floor.requestStamp, reentry⟩]
        requestStamp := s.floor.requestStamp + 1 } := rfl

theorem State.addEntry_station (s : State) (a b : Addr) (reentry : Bool) :
    (s.addEntry a reentry).station b = if b = a then { s.station b with mic := .queued } else s.station b :=
  Tab.get_modify _ _ _ _

/-- A removal from the pool leaves its station OFF without a stamp. -/
theorem State.core_removeQueued (s : State) (a : Addr) (room : Option RoomIx) (reason : Reason) :
    (s.removeQueued a room reason).core =
      ((s.dropEntry a).updStation a fun x => { x with mic := .off, stamp := none }).core := by
  cases room <;> simp [State.removeQueued]

/-- A held press cleared. -/
theorem State.core_clearHeld (s : State) (a : Addr) (room : Option RoomIx) (reason : Reason) :
    (s.clearHeld a room reason).core = (s.updStation a fun x => { x with held := false }).core := by
  simp [State.clearHeld]

/-! ## The advance pass (R90) -/

/-- A property that every grant keeps, an advance pass keeps. -/
theorem State.advance_keeps (P : State → Prop) (hgrant : ∀ s a, P s → P (s.grant a .auto)) (s : State)
    (freed : List SpurIx) (named : List RoomIx) (h : P s) : P (s.advance freed named) := by
  have walk : ∀ s r, P s → P (s.walkQueue r) := fun s r hs => by
    unfold State.walkQueue
    exact foldl_keeps P _ _ s hs fun t e _ ht => by split <;> [exact hgrant _ _ ht; exact ht]
  unfold State.advance
  exact foldl_keeps P _ _ s h fun t r _ ht => by split <;> [exact walk _ _ ht; exact ht]

/-- An event that frees nothing and names no room grants nothing. -/
theorem State.advance_nothing (s : State) : s.advance [] [] = s := by
  have h : s.candidates [] [] = [] := by
    apply List.eq_nil_iff_forall_not_mem.mpr
    intro r hr
    rw [State.candidates, mem_finsWhere] at hr
    simp at hr
  unfold State.advance
  rw [h]
  rfl

/-- The end of a quiet event of the floor controller changes nothing (R90). -/
theorem State.endFloorEvent_quiet {s : State} (h : s.quiet) : s.endFloorEvent = s := by
  obtain ⟨h1, h2⟩ := h
  unfold State.endFloorEvent
  dsimp only
  rw [h1, h2, State.advance_nothing]
  cases s with
  | mk pending handed trunk spurs stations bindings pollSpacing lostHold lines sections walls map floor booths channels
      mix override lane =>
    cases floor
    simp_all

end Sys2Proof.Machine
end

