-- ==== Sys2Proof/Laws/Grows.lean ====
section
/-! SUPPORT. What every operation of the blocks does to the lane, said once: it adds reports at the end of the report
queue within the room the queue has (R186), and changes nothing else of the lane. -/

namespace Sys2Proof.Machine

/-- From s to t the lane only grows: reports are added at the end, within the room, and nothing else of it changes. -/
def State.grows (s t : State) : Prop :=
  s.reportList <+: t.reportList ∧ s.sameLane t ∧
    (s.lane.reports.length ≤ s.lane.reportRoom → t.lane.reports.length ≤ s.lane.reportRoom)

theorem State.grows_of_lane {s t : State} (h : t.lane = s.lane) : s.grows t := by
  refine ⟨?_, ?_, ?_⟩
  · rw [State.reportList, State.reportList, h]
  · rw [State.sameLane, h]
  · rw [h]; exact id

theorem State.grows_refl (s : State) : s.grows s := State.grows_of_lane rfl

theorem State.sameLane_reportRoom {s t : State} (h : s.sameLane t) : t.lane.reportRoom = s.lane.reportRoom := by
  rw [State.sameLane] at h
  rw [h]
  rfl

theorem State.grows_trans {s t u : State} (h : s.grows t) (g : t.grows u) : s.grows u := by
  obtain ⟨h1, h2, h3⟩ := h
  obtain ⟨g1, g2, g3⟩ := g
  refine ⟨h1.trans g1, ?_, fun hs => ?_⟩
  · rw [State.sameLane] at *
    rw [g2, h2]
  · rw [State.sameLane_reportRoom h2] at g3
    exact g3 (h3 hs)

/-- A lane within its bounds stays within them while it grows. -/
theorem State.grows_inBounds {s t : State} (h : s.grows t) (b : s.lane.inBounds) : t.lane.inBounds := by
  obtain ⟨-, h2, h3⟩ := h
  obtain ⟨b1, b2, b3, b4⟩ := b
  have hr : s.lane.reportRoom = 64 := by rw [LaneUnit.reportRoom, b4]; rfl
  rw [hr] at h3
  rw [State.sameLane] at h2
  refine ⟨h3 b1, ?_, ?_, ?_⟩ <;> rw [h2]
  · exact b2
  · exact b3
  · exact b4

theorem State.grows_foldl {α : Type} (f : State → α → State) (xs : List α) (s : State)
    (h : ∀ (s : State) (x : α), s.grows (f s x)) : s.grows (xs.foldl f s) :=
  foldl_keeps (fun t => s.grows t) f xs s s.grows_refl fun t x _ ht => State.grows_trans ht (h t x)

theorem State.grows_eachFin {n : Nat} (f : Fin n → State → State) (s : State) (h : ∀ (i : Fin n) (s : State), s.grows (f i s)) :
    s.grows (eachFin n f s) :=
  State.grows_foldl _ _ s fun s i => h i s

/-! ## One lemma for each operation -/

theorem State.grows_place (s : State) (r : Report) : s.grows (s.place r) := by
  refine ⟨s.reportList_prefix_place r, ?_, fun h => ?_⟩
  · simp only [State.sameLane, State.place, LaneUnit.place]
    split <;> rfl
  · change (s.lane.place r).reports.length ≤ _
    rw [LaneUnit.place_length]
    split <;> omega

theorem State.grows_placeAll (s : State) (rs : List Report) : s.grows (s.placeAll rs) :=
  State.grows_foldl State.place rs s State.grows_place

theorem State.offer_lane (s : State) (a : Addr) (b : CommandBody) : (s.offer a b).lane = s.lane := by
  unfold State.offer; split <;> rfl

theorem State.grows_offer (s : State) (a : Addr) (b : CommandBody) : s.grows (s.offer a b) :=
  State.grows_of_lane (s.offer_lane a b)

theorem State.grows_offerLamp (s : State) (a : Addr) (l : Lamp) : s.grows (s.offerLamp a l) := s.grows_offer a _

theorem State.grows_offerFloorLamp (s : State) (a : Addr) : s.grows (s.offerFloorLamp a) := s.grows_offer a _

theorem State.grows_offerIfChanged (s before : State) (a : Addr) : s.grows (s.offerIfChanged before a) := by
  unfold State.offerIfChanged
  split
  · exact s.grows_refl
  · exact s.grows_offerFloorLamp a

theorem State.grows_relampFormer (s before : State) (r : RoomIx) : s.grows (s.relampFormer before r) := by
  unfold State.relampFormer
  repeat' split
  all_goals first | exact s.grows_refl | exact s.grows_offerFloorLamp _

theorem State.grows_relampHead (s before : State) (r : RoomIx) : s.grows (s.relampHead before r) := by
  unfold State.relampHead
  split
  · exact s.grows_refl
  · dsimp only
    refine State.grows_trans ?_ (State.grows_relampFormer _ _ _)
    split
    · exact s.grows_offerFloorLamp _
    · exact s.grows_refl

theorem State.grows_claim (s : State) (a : Addr) : s.grows (s.claim a) := by
  unfold State.claim
  dsimp only
  split
  · exact State.grows_of_lane (State.offer_lane _ _ _)
  · exact s.grows_refl

theorem State.grows_free (s : State) (a : Addr) : s.grows (s.free a) := by
  unfold State.free
  dsimp only
  split
  · exact s.grows_refl
  · exact State.grows_of_lane (State.offer_lane _ _ _)

theorem State.grows_tuneStation (t : ListenTable) (a : Addr) (s : State) : s.grows (tuneStation t a s) := by
  unfold tuneStation
  dsimp only
  split
  · exact s.grows_refl
  · exact State.grows_of_lane (State.offer_lane _ _ _)

theorem State.grows_refresh (s : State) (p : SpurIx) : s.grows (s.refresh p) := by
  have fold : ∀ (t : ListenTable) (as : List Addr) (s : State), s.grows (as.foldl (fun s a => tuneStation t a s) s) :=
    fun t as s => State.grows_foldl _ as s fun s a => State.grows_tuneStation t a s
  have base : ∀ f, s.grows (s.updSpur p f) := fun f => State.grows_of_lane rfl
  unfold State.refresh
  dsimp only
  split
  · exact State.grows_trans (base _) (fold _ _ _)
  · exact State.grows_trans (State.grows_trans (base _) (fold _ _ _)) (State.grows_place _ _)

theorem State.grows_updStation (s : State) (a : Addr) (f : Station → Station) : s.grows (s.updStation a f) :=
  State.grows_of_lane rfl

theorem State.grows_resolveAll (s : State) : s.grows s.resolveAll := State.grows_of_lane rfl

theorem State.grows_listenTo (s : State) (a : Addr) : s.grows (s.listenTo a) := by
  unfold State.listenTo State.resolveStation
  exact State.grows_trans (s.grows_updStation a _) (State.grows_refresh _ _)

theorem State.grows_listenEvaluation (s : State) : s.grows s.listenEvaluation := by
  unfold State.listenEvaluation
  dsimp only
  exact State.grows_trans s.grows_resolveAll (State.grows_foldl State.refresh _ _ State.grows_refresh)

theorem State.grows_listenSwap (s : State) : s.grows s.listenSwap := by
  unfold State.listenSwap
  exact State.grows_trans s.grows_resolveAll (State.grows_foldl State.refresh _ _ State.grows_refresh)

theorem State.grows_listenLoss (s : State) (a : Addr) : s.grows (s.listenLoss a) := by
  unfold State.listenLoss
  exact State.grows_trans (s.grows_updStation a _) (State.grows_refresh _ _)

theorem State.derive_lane (s : State) : s.derive.lane = s.lane := rfl

theorem State.grows_evaluate (s event : State) (cause : Reason) : s.grows (s.evaluate event cause) := by
  have fold : ∀ (d : State) (as : List Addr) (t : State),
      t.grows (as.foldl (fun t a => t.offerLamp a (d.consoleLamp a)) t) := fun d as t =>
    State.grows_foldl _ as t fun t a => t.grows_offerLamp a _
  have first : ∀ rs, s.grows (s.derive.placeAll rs) := fun rs =>
    State.grows_trans (State.grows_of_lane s.derive_lane) (State.grows_placeAll _ rs)
  unfold State.evaluate
  dsimp only
  split
  · exact State.grows_trans (State.grows_trans (first _) (fold _ _ _)) (State.grows_listenEvaluation _)
  · exact State.grows_trans (first _) (fold _ _ _)

theorem State.granted_lane (s : State) (a : Addr) : (s.granted a).lane = s.lane := by
  change (State.claim _ a).lane = s.lane
  unfold State.claim
  dsimp only
  split
  · exact State.offer_lane _ _ _
  · rfl

theorem State.grows_grant (s : State) (a : Addr) (reason : Reason) : s.grows (s.grant a reason) := by
  unfold State.grant
  split
  · exact s.grows_refl
  · next r _ =>
    have h0 : s.grows ((s.granted a).offerFloorLamp a) :=
      State.grows_trans (State.grows_of_lane (s.granted_lane a)) (State.grows_offerFloorLamp _ _)
    have h1 : ∀ (t : State) (f : Room → Room), s.grows t → s.grows (t.updRoom r f) := fun t f ht =>
      State.grows_trans ht (State.grows_of_lane rfl)
    have h2 : ∀ (t : State) (x : Report), s.grows t → s.grows ((t.place x).relampHead s r) := fun t x ht =>
      State.grows_trans (State.grows_trans ht (State.grows_place _ _)) (State.grows_relampHead _ _ _)
    dsimp only
    split
    · refine State.grows_trans (h2 _ _ ?_) (State.grows_evaluate _ _ _)
      split
      · exact h1 _ _ h0
      · exact h0
    · apply h2
      split
      · exact h1 _ _ h0
      · exact h0

theorem State.grows_close (s : State) (a : Addr) (room : Option RoomIx) (reason : Reason) (reenter : Bool) :
    s.grows (s.close a room reason reenter) := by
  have h0 : ∀ f, s.grows (((s.free a).markFreed (s.station a).spur).updStation a f) := fun f =>
    State.grows_trans (s.grows_free a) (State.grows_of_lane rfl)
  unfold State.close
  cases reenter <;> cases room <;> simp only [if_true, Bool.false_eq_true, if_false]
  · exact State.grows_trans (State.grows_trans (h0 _) (State.grows_offerLamp _ _ _)) (State.grows_place _ _)
  · exact State.grows_trans (State.grows_trans (State.grows_trans (h0 _) (State.grows_offerLamp _ _ _))
      (State.grows_place _ _)) (State.grows_of_lane rfl)
  · exact State.grows_trans (h0 _) (State.grows_place _ _)
  · exact State.grows_trans (State.grows_trans (h0 _) (State.grows_place _ _)) (State.grows_of_lane rfl)

theorem State.grows_removeQueued (s : State) (a : Addr) (room : Option RoomIx) (reason : Reason) :
    s.grows (s.removeQueued a room reason) := by
  have base : ∀ f, s.grows ((s.dropEntry a).updStation a f) := fun f => State.grows_of_lane rfl
  have h0 : ∀ f x, s.grows ((((s.dropEntry a).updStation a f).offerLamp a .off).place x) := fun f x =>
    State.grows_trans (State.grows_trans (base f) (State.grows_offerLamp _ _ _)) (State.grows_place _ _)
  unfold State.removeQueued
  cases room
  · exact h0 _ _
  · exact State.grows_trans (h0 _ _) (State.grows_relampHead _ _ _)

theorem State.grows_refusePress (s : State) (a : Addr) (r : RoomIx) (reason : Reason) :
    s.grows (s.refusePress a r reason) :=
  State.grows_trans (s.grows_offerLamp a _) (State.grows_place _ _)

theorem State.grows_clearHeld (s : State) (a : Addr) (room : Option RoomIx) (reason : Reason) :
    s.grows (s.clearHeld a room reason) := by
  unfold State.clearHeld
  exact State.grows_trans (s.grows_updStation a _) (State.grows_place _ _)

theorem State.grows_advance (s : State) (freed : List SpurIx) (named : List RoomIx) : s.grows (s.advance freed named) :=
  State.advance_keeps (fun t => s.grows t) (fun t a ht => State.grows_trans ht (t.grows_grant a _)) s freed named
    s.grows_refl

theorem State.grows_endFloorEvent (s : State) : s.grows s.endFloorEvent := by
  have base : s.grows { s with floor := { s.floor with freed := [], named := [] } } := State.grows_of_lane rfl
  unfold State.endFloorEvent
  exact State.grows_trans base (State.grows_advance _ _ _)

theorem State.grows_lowerFlag (s : State) (r : RoomIx) (reason : Reason) : s.grows (s.lowerFlag r reason) :=
  State.grows_trans (t := s.setPriority r false) (State.grows_of_lane rfl) (State.grows_place _ _)

theorem State.grows_clearPriority (s : State) (r : RoomIx) (reason : Reason) : s.grows (s.clearPriority r reason) := by
  unfold State.clearPriority
  split
  · exact State.grows_trans (s.grows_lowerFlag r reason)
      (State.grows_foldl State.offerFloorLamp _ _ State.grows_offerFloorLamp)
  · exact s.grows_refl

theorem State.grows_closeExcess (s : State) (r : RoomIx) (counted : List Addr) : s.grows (s.closeExcess r counted) :=
  State.grows_foldl _ _ _ fun t a => t.grows_close a _ _ _

theorem State.grows_dropChair (s : State) (r : RoomIx) (a : Addr) : s.grows (s.dropChair r a) :=
  State.grows_trans (t := s.updStation a Station.restartCounts) (State.grows_of_lane rfl) (State.grows_closeExcess _ _ _)

theorem State.grows_dropFormerChairs (s old : State) (r : RoomIx) : s.grows (s.dropFormerChairs old r) := by
  unfold State.dropFormerChairs
  dsimp only
  split
  · exact s.grows_refl
  · exact State.grows_trans (State.grows_foldl _ _ s fun t a => t.grows_updStation a _) (State.grows_closeExcess _ _ _)

theorem State.grows_swapNewChair (s old : State) (r : RoomIx) (a : Addr) : s.grows (s.swapNewChair old r a) := by
  unfold State.swapNewChair
  repeat' split
  · exact s.grows_updStation a _
  · exact s.grows_removeQueued a _ _
  · exact s.grows_refl
  · exact s.grows_refl

theorem State.grows_swapChairs (s old : State) : s.grows (s.swapChairs old) :=
  State.grows_foldl _ _ s fun s r => by
    have h : s.grows (eachFin 192 (fun a t => t.swapNewChair old r a) (s.dropFormerChairs old r)) :=
      State.grows_trans (s.grows_dropFormerChairs old r)
        (State.grows_eachFin _ _ fun a t => t.grows_swapNewChair old r a)
    dsimp only
    split
    · exact h
    · exact State.grows_trans h (State.grows_place _ _)

theorem State.grows_updBooth (s : State) (b : BoothIx) (f : Booth → Booth) : s.grows (s.updBooth b f) :=
  State.grows_of_lane rfl

theorem State.grows_takeOff (s : State) (b : BoothIx) (o : Output) (reason : Reason) :
    s.grows (s.takeOff b o reason) := by
  unfold State.takeOff
  split
  · exact s.grows_refl
  · exact State.grows_trans (State.grows_trans (s.grows_free _) (State.grows_updBooth _ _ _)) (State.grows_place _ _)

theorem State.grows_putOnAir (s : State) (a : Addr) (b : BoothIx) (o : Output) (cause : Reason) :
    s.grows (s.putOnAir a b o cause) := by
  unfold State.putOnAir
  dsimp only
  exact State.grows_trans (State.grows_trans (s.grows_claim a) (State.grows_updBooth _ _ _)) (State.grows_place _ _)

theorem State.grows_refuseConsole (s : State) (a : Addr) (o : Output) (reason : Reason) :
    s.grows (s.refuseConsole a o reason) := by
  unfold State.refuseConsole
  dsimp only
  split
  · exact State.grows_trans (s.grows_offerLamp a _) (State.grows_place _ _)
  · exact State.grows_trans (s.grows_offerLamp a _) (State.grows_place _ _)

theorem State.grows_consolePasses (s : State) (freed : List SpurIx) : s.grows (s.consolePasses freed) :=
  State.grows_foldl _ freed s fun t p => t.grows_advance [p] []

end Sys2Proof.Machine
end

