-- ==== Sys2Proof/Laws/Lamps.lean ====
section
/-! SUPPORT. What offering lamps does to a state, said once: only the station records and the spurs' command queues are
written (R25 to R28, R81, R116), after a change of the override sources too (R168 to R170). -/

namespace Sys2Proof.Machine

/-- From s to t only station records and spurs are written. -/
def State.relit (s t : State) : Prop := t = { s with stations := t.stations, spurs := t.spurs }

theorem State.relit_refl (s : State) : s.relit s := rfl

theorem State.relit_trans {s t u : State} (h : s.relit t) (g : t.relit u) : s.relit u := by
  unfold State.relit at *
  rw [h] at g
  exact g

theorem State.relit_foldl {α : Type} (f : State → α → State) (xs : List α) (s : State)
    (h : ∀ (s : State) (x : α), s.relit (f s x)) : s.relit (xs.foldl f s) :=
  foldl_keeps (fun t => s.relit t) f xs s s.relit_refl fun t x _ ht => State.relit_trans ht (h t x)

theorem State.relit_eachFin {n : Nat} (f : Fin n → State → State) (s : State)
    (h : ∀ (i : Fin n) (s : State), s.relit (f i s)) : s.relit (eachFin n f s) :=
  State.relit_foldl _ _ s fun s i => h i s

theorem State.relit_offer (s : State) (a : Addr) (b : CommandBody) : s.relit (s.offer a b) := by
  unfold State.offer
  split <;> rfl

theorem State.relit_offerIfChanged (s before : State) (a : Addr) : s.relit (s.offerIfChanged before a) := by
  unfold State.offerIfChanged
  split
  · exact s.relit_refl
  · exact s.relit_offer a _

/-- A start or end of override writes lamps only (R169, R170). -/
theorem State.relit_overrideLamps (s before : State) : s.relit (s.overrideLamps before) := by
  refine State.relit_trans (t := s.overrideFloorLamps before) ?_ ?_
  · refine State.relit_eachFin _ s fun r t => ?_
    split
    · exact State.relit_foldl _ _ t fun t a => t.relit_offerIfChanged before a
    · exact t.relit_refl
  · refine State.relit_eachFin _ _ fun b t => State.relit_foldl _ _ t fun t o => ?_
    repeat' split
    all_goals first | exact t.relit_refl | exact t.relit_offer _ _

/-- A change of the override sources places at most one report, and then writes lamps only (R168). -/
theorem State.overrideTransition_frame (s before : State) (cause : Reason) (line : Option LineIx) :
    ∃ t : State, (t = s ∨ ∃ r, t = s.place r) ∧ t.relit (s.overrideTransition before cause line) := by
  unfold State.overrideTransition
  split
  · exact ⟨s, .inl rfl, s.relit_refl⟩
  · next k _ =>
    refine ⟨_, .inr ⟨s.overrideReport k cause line, rfl⟩, ?_⟩
    dsimp only
    split
    · exact State.relit_refl _
    all_goals exact State.relit_overrideLamps _ before

/-- A change of the override sources keeps the lines and the directive source it was made with (R165, R168). -/
theorem State.overrideActive_overrideTransition (s before : State) (cause : Reason) (line : Option LineIx) :
    (s.overrideTransition before cause line).overrideActive = s.overrideActive := by
  obtain ⟨t, ht, h⟩ := s.overrideTransition_frame before cause line
  rw [h]
  obtain rfl | ⟨r, rfl⟩ := ht <;> rfl

/-- After a debounced change of an OVERRIDE line, override is active as the lines and the directive source say (R165). -/
theorem State.overrideActive_debouncedChange (s : State) (l : LineIx) (h : (s.line l).fn = .override) :
    (s.debouncedChange l).overrideActive =
      (s.updLine l fun x => { x with debounced := x.lastRaw, changeDue := false }).overrideActive := by
  simp only [State.debouncedChange, h]
  exact State.overrideActive_overrideTransition _ s .line (some l)

end Sys2Proof.Machine
end

