-- ==== Sys2Proof/Laws/PerInstr.lean ====
section
/-! SUPPORT. Statements made of every command, one lemma for each constructor. PayloadFits: a well-formed directive row
stands for a directive whose payload its length byte can give (R175). -/

namespace Sys2Proof.Laws

/-- A well-formed command that is a directive stands for one of at most 60 payload bytes (R175). -/
def PayloadFits.Statement (i : Instr) : Prop :=
  i.wellFormed = true → ∀ d, Machine.directiveOf i = some d → d.payload.length ≤ 60

theorem PayloadFits.powerOn : PayloadFits.Statement (.powerOn) :=
  fun _ _ e => nomatch e

theorem PayloadFits.framePeriodStart (levels : Tab 24 LineLevel) : PayloadFits.Statement (.framePeriodStart levels) :=
  fun _ _ e => nomatch e

theorem PayloadFits.epochBoundary : PayloadFits.Statement (.epochBoundary) :=
  fun _ _ e => nomatch e

theorem PayloadFits.trunkFrameReceive (rx : Option (List Byte)) : PayloadFits.Statement (.trunkFrameReceive rx) :=
  fun _ _ e => nomatch e

theorem PayloadFits.trunkLinkDown : PayloadFits.Statement (.trunkLinkDown) :=
  fun _ _ e => nomatch e

theorem PayloadFits.trunkLinkUp : PayloadFits.Statement (.trunkLinkUp) :=
  fun _ _ e => nomatch e

theorem PayloadFits.spurFrameReceive (spur : SpurIx) (rx : Option (List Byte)) : PayloadFits.Statement (.spurFrameReceive spur rx) :=
  fun _ _ e => nomatch e

theorem PayloadFits.spurLinkDown (spur : SpurIx) : PayloadFits.Statement (.spurLinkDown spur) :=
  fun _ _ e => nomatch e

theorem PayloadFits.spurLinkUp (spur : SpurIx) : PayloadFits.Statement (.spurLinkUp spur) :=
  fun _ _ e => nomatch e

theorem PayloadFits.join (spur : SpurIx) (uid : Uid) (arg0 arg1 : Byte) : PayloadFits.Statement (.join spur uid arg0 arg1) :=
  fun _ _ e => nomatch e

theorem PayloadFits.press (spur : SpurIx) (addr : Addr) (uid : Uid) : PayloadFits.Statement (.press spur addr uid) :=
  fun _ _ e => nomatch e

theorem PayloadFits.release (spur : SpurIx) (addr : Addr) (uid : Uid) : PayloadFits.Statement (.release spur addr uid) :=
  fun _ _ e => nomatch e

theorem PayloadFits.cancel (spur : SpurIx) (addr : Addr) (uid : Uid) : PayloadFits.Statement (.cancel spur addr uid) :=
  fun _ _ e => nomatch e

theorem PayloadFits.next (spur : SpurIx) (addr : Addr) (uid : Uid) : PayloadFits.Statement (.next spur addr uid) :=
  fun _ _ e => nomatch e

theorem PayloadFits.priorityPress (spur : SpurIx) (addr : Addr) (uid : Uid) : PayloadFits.Statement (.priorityPress spur addr uid) :=
  fun _ _ e => nomatch e

theorem PayloadFits.priorityRelease (spur : SpurIx) (addr : Addr) (uid : Uid) : PayloadFits.Statement (.priorityRelease spur addr uid) :=
  fun _ _ e => nomatch e

theorem PayloadFits.consoleOn (spur : SpurIx) (addr : Addr) (uid : Uid) (arg0 : Byte) : PayloadFits.Statement (.consoleOn spur addr uid arg0) :=
  fun _ _ e => nomatch e

theorem PayloadFits.consoleOff (spur : SpurIx) (addr : Addr) (uid : Uid) : PayloadFits.Statement (.consoleOff spur addr uid) :=
  fun _ _ e => nomatch e

theorem PayloadFits.select (spur : SpurIx) (addr : Addr) (uid : Uid) (arg0 : Byte) : PayloadFits.Statement (.select spur addr uid arg0) :=
  fun _ _ e => nomatch e

theorem PayloadFits.pollTimerFire (spur : SpurIx) : PayloadFits.Statement (.pollTimerFire spur) :=
  fun _ _ e => nomatch e

theorem PayloadFits.lostHoldExpiry (addr : Addr) : PayloadFits.Statement (.lostHoldExpiry addr) :=
  fun _ _ e => nomatch e

theorem PayloadFits.debouncedChange (line : LineIx) : PayloadFits.Statement (.debouncedChange line) :=
  fun _ _ e => nomatch e

theorem PayloadFits.lineReRead (line : LineIx) : PayloadFits.Statement (.lineReRead line) :=
  fun _ _ e => nomatch e

theorem PayloadFits.fadeOutEnd : PayloadFits.Statement (.fadeOutEnd) :=
  fun _ _ e => nomatch e

theorem PayloadFits.fadeInEnd : PayloadFits.Statement (.fadeInEnd) :=
  fun _ _ e => nomatch e

theorem PayloadFits.frameComputation : PayloadFits.Statement (.frameComputation) :=
  fun _ _ e => nomatch e

theorem PayloadFits.warningPeriodStart (addr : Addr) : PayloadFits.Statement (.warningPeriodStart addr) :=
  fun _ _ e => nomatch e

theorem PayloadFits.speakLimitClose (addr : Addr) : PayloadFits.Statement (.speakLimitClose addr) :=
  fun _ _ e => nomatch e

theorem PayloadFits.silenceClose (addr : Addr) : PayloadFits.Statement (.silenceClose addr) :=
  fun _ _ e => nomatch e

theorem PayloadFits.laneByte (byte : Byte) : PayloadFits.Statement (.laneByte byte) :=
  fun _ _ e => nomatch e

theorem PayloadFits.frameTimeout : PayloadFits.Statement (.frameTimeout) :=
  fun _ _ e => nomatch e

theorem PayloadFits.directiveExecution : PayloadFits.Statement (.directiveExecution) :=
  fun _ _ e => nomatch e

theorem PayloadFits.unknownDirective (kind tag : Byte) (payload : List Byte) : PayloadFits.Statement (.unknownDirective kind tag payload) :=
  fun h d e => by
  cases e; exact of_decide_eq_true (Bool.and_eq_true_iff.mp h).1

theorem PayloadFits.partQuery (tag : Byte) (payload : List Byte) : PayloadFits.Statement (.partQuery tag payload) :=
  fun h d e => by
  cases e; exact of_decide_eq_true h

theorem PayloadFits.warmRestart (tag : Byte) (payload : List Byte) : PayloadFits.Statement (.warmRestart tag payload) :=
  fun h d e => by
  cases e; exact of_decide_eq_true h

theorem PayloadFits.setTiming (tag : Byte) (payload : List Byte) : PayloadFits.Statement (.setTiming tag payload) :=
  fun h d e => by
  cases e; exact of_decide_eq_true h

theorem PayloadFits.bindSeat (tag : Byte) (payload : List Byte) : PayloadFits.Statement (.bindSeat tag payload) :=
  fun h d e => by
  cases e; exact of_decide_eq_true h

theorem PayloadFits.unbindSeat (tag : Byte) (payload : List Byte) : PayloadFits.Statement (.unbindSeat tag payload) :=
  fun h d e => by
  cases e; exact of_decide_eq_true h

theorem PayloadFits.stationSet (tag : Byte) (payload : List Byte) : PayloadFits.Statement (.stationSet tag payload) :=
  fun h d e => by
  cases e; exact of_decide_eq_true h

theorem PayloadFits.stationQuery (tag : Byte) (payload : List Byte) : PayloadFits.Statement (.stationQuery tag payload) :=
  fun h d e => by
  cases e; exact of_decide_eq_true h

theorem PayloadFits.sectionSet (tag : Byte) (payload : List Byte) : PayloadFits.Statement (.sectionSet tag payload) :=
  fun h d e => by
  cases e; exact of_decide_eq_true h

theorem PayloadFits.wallSet (tag : Byte) (payload : List Byte) : PayloadFits.Statement (.wallSet tag payload) :=
  fun h d e => by
  cases e; exact of_decide_eq_true h

theorem PayloadFits.wallQuery (tag : Byte) (payload : List Byte) : PayloadFits.Statement (.wallQuery tag payload) :=
  fun h d e => by
  cases e; exact of_decide_eq_true h

theorem PayloadFits.lineSet (tag : Byte) (payload : List Byte) : PayloadFits.Statement (.lineSet tag payload) :=
  fun h d e => by
  cases e; exact of_decide_eq_true h

theorem PayloadFits.profileSet (tag : Byte) (payload : List Byte) : PayloadFits.Statement (.profileSet tag payload) :=
  fun h d e => by
  cases e; exact of_decide_eq_true h

theorem PayloadFits.profileClear (tag : Byte) (payload : List Byte) : PayloadFits.Statement (.profileClear tag payload) :=
  fun h d e => by
  cases e; exact of_decide_eq_true h

theorem PayloadFits.roomSet (tag : Byte) (payload : List Byte) : PayloadFits.Statement (.roomSet tag payload) :=
  fun h d e => by
  cases e; exact of_decide_eq_true h

theorem PayloadFits.roomQuery (tag : Byte) (payload : List Byte) : PayloadFits.Statement (.roomQuery tag payload) :=
  fun h d e => by
  cases e; exact of_decide_eq_true h

theorem PayloadFits.mapQuery (tag : Byte) (payload : List Byte) : PayloadFits.Statement (.mapQuery tag payload) :=
  fun h d e => by
  cases e; exact of_decide_eq_true h

theorem PayloadFits.floorGrantHead (tag : Byte) (rest : List Byte) : PayloadFits.Statement (.floorGrantHead tag rest) :=
  fun h d e => by
  cases e; exact of_decide_eq_true h

theorem PayloadFits.floorGrant (tag : Byte) (rest : List Byte) : PayloadFits.Statement (.floorGrant tag rest) :=
  fun h d e => by
  cases e; exact of_decide_eq_true h

theorem PayloadFits.floorClose (tag : Byte) (rest : List Byte) : PayloadFits.Statement (.floorClose tag rest) :=
  fun h d e => by
  cases e; exact of_decide_eq_true h

theorem PayloadFits.floorCancel (tag : Byte) (rest : List Byte) : PayloadFits.Statement (.floorCancel tag rest) :=
  fun h d e => by
  cases e; exact of_decide_eq_true h

theorem PayloadFits.floorClearQueue (tag : Byte) (rest : List Byte) : PayloadFits.Statement (.floorClearQueue tag rest) :=
  fun h d e => by
  cases e; exact of_decide_eq_true h

theorem PayloadFits.floorCloseAll (tag : Byte) (rest : List Byte) : PayloadFits.Statement (.floorCloseAll tag rest) :=
  fun h d e => by
  cases e; exact of_decide_eq_true h

theorem PayloadFits.queueQuery (tag : Byte) (payload : List Byte) : PayloadFits.Statement (.queueQuery tag payload) :=
  fun h d e => by
  cases e; exact of_decide_eq_true h

theorem PayloadFits.boothSet (tag : Byte) (payload : List Byte) : PayloadFits.Statement (.boothSet tag payload) :=
  fun h d e => by
  cases e; exact of_decide_eq_true h

theorem PayloadFits.boothQuery (tag : Byte) (payload : List Byte) : PayloadFits.Statement (.boothQuery tag payload) :=
  fun h d e => by
  cases e; exact of_decide_eq_true h

theorem PayloadFits.channelSet (tag : Byte) (payload : List Byte) : PayloadFits.Statement (.channelSet tag payload) :=
  fun h d e => by
  cases e; exact of_decide_eq_true h

theorem PayloadFits.announce (tag : Byte) (payload : List Byte) : PayloadFits.Statement (.announce tag payload) :=
  fun h d e => by
  cases e; exact of_decide_eq_true h

theorem PayloadFits.spurQuery (tag : Byte) (payload : List Byte) : PayloadFits.Statement (.spurQuery tag payload) :=
  fun h d e => by
  cases e; exact of_decide_eq_true h

end Sys2Proof.Laws
end

