-- ==== Sys2Proof/Laws/Wire.lean ====
section
/-! SUPPORT. What putting a frame on the wire and classifying it say of each other (R3, R8, R192). -/

namespace Sys2Proof.Machine

@[simp] theorem u16_length (n : Nat) : (u16 n).length = 2 := rfl

/-- A frame of the right length made with the link check is good, and its fields are the ones it was made from. -/
theorem classify_frameBytes (start : Nat) (fields : List Byte) :
    classify start (fields.length + 4) (some (frameBytes start fields)) = .good fields := by
  have h2 : (u16 start).length = 2 := rfl
  have hc : (u16 (linkCheck fields).toNat).length = 2 := rfl
  have hf : (((frameBytes start fields).drop 2).take (fields.length + 4 - 4)) = fields := by
    rw [frameBytes, List.append_assoc, Nat.add_sub_cancel, List.drop_left' h2, List.take_left]
  have hl : (frameBytes start fields).length = fields.length + 4 := by
    simp only [frameBytes, List.length_append, h2, hc]; omega
  have hd : (frameBytes start fields).drop (fields.length + 4 - 2) = u16 (linkCheck fields).toNat := by
    rw [show fields.length + 4 - 2 = (u16 start ++ fields).length by simp only [List.length_append, h2]; omega]
    exact List.drop_left
  have ht : (frameBytes start fields).take 2 = u16 start := by
    rw [frameBytes, List.append_assoc, ← h2]
    exact List.take_left
  simp only [classify, ht, ne_eq, not_true_eq_false, if_false]
  rw [hf, if_pos ⟨hl, hd⟩]

end Sys2Proof.Machine
end

