-- ==== Sys2Proof/Tests/Slice0.lean ====
section
/-! SUPPORT. The model's own tests: what WellFormed refuses, one small step for each command with its result taken from
the rule its name or comment cites, the figures of the worked examples, and for every statement with hypotheses a state
and operands that meet them (`witness_<statement>`). -/

namespace Sys2Proof.Tests

open Sys2Proof Sys2Proof.Machine

set_option Elab.async false

/-! ## Small states -/

/-- A PRESENT delegate of room 0, on spur 0, with uid 1 more than its index. -/
def delegate (a : Nat) : Station :=
  { Station.initial with state := .present, uid := BitVec.ofNat 48 (a + 1), key := true, sec := some 0 }

/-- A PRESENT console of booth 1. -/
def console (a : Nat) (n : ConsoleIx) : Station :=
  { Station.initial with
    state := .present, uid := BitVec.ofNat 48 (a + 1), kind := .console, booth := some (0, n), sec := some 0 }

/-- Trunk and spurs UP; stations 1 to 3 delegates and 4 and 5 consoles of booth 1, all in room 0 on spur 0; booth 1 with
channels 1 (code 20) and 2 (code 21), both idle. -/
def hall : State :=
  let s : State := .reset
  { s with
    trunk := { s.trunk with link := ⟨true, 0, 0⟩, clock := .recovered, started := true }
    spurs := s.spurs.map fun p => { p with link := ⟨true, 0, 0⟩ }
    stations := ((((s.stations.set 0 (delegate 0)).set 1 (delegate 1)).set 2 (delegate 2)).set 3 (console 3 0)).set 4
      (console 4 1)
    booths := s.booths.set 0 { Booth.initial with
      anchor := some 0, comprehension := [20], outA := some 0, outB := some 1, room := some 0, input := .floor }
    channels := (s.channels.set 0 ⟨20, some 0, .idle, false⟩).set 1 ⟨21, some 0, .idle, false⟩ }

/-- A station on the air in slot k of spur 0 with a grant stamp. -/
def onAir (s : State) (a : Addr) (k : SlotIx) (n : Nat) : State :=
  (((s.updStation a fun x => { x with mic := .onAir, talk := some k, stamp := some (BitVec.ofNat 32 n) }).updSpur 0
    fun p => { p with talkSlots := p.talkSlots.set k (some a) }))

/-- A station queued for the floor with a request stamp. -/
def queued (s : State) (a : Addr) (n : Nat) : State :=
  { s.updStation a fun x => { x with mic := .queued } with
    floor := { s.floor with pool := s.floor.pool ++ [⟨a, BitVec.ofNat 32 n, false⟩] } }

/-- The record of room 0 changed. -/
def room0 (s : State) (f : Room → Room) : State := s.updRoom 0 f

/-- A console on the air to an output of booth 1, in slot k of spur 0. -/
def voicing (s : State) (a : Addr) (o : Output) (k : SlotIx) : State :=
  ((s.updBooth 0 fun b => b.stand o (some a)).updStation a fun x => { x with talk := some k }).updSpur 0
    fun p => { p with talkSlots := p.talkSlots.set k (some a) }

/-- Every talk slot of spur 0 held by a station that is not in the room. -/
def fullSpur (s : State) : State := s.updSpur 0 fun p => { p with talkSlots := .fill 16 (some 100) }

/-- The next state of a command. -/
def after (c : Instr) (s : State) : State :=
  match exec c s with
  | .next t => t
  | .fault f => nomatch f
  | .refused _ => s

/-- The state after the commands of a list. -/
def afterAll (cs : List Instr) (s : State) : State := cs.foldl (fun s c => after c s) s

/-- The reports of a state's queue. -/
def said (s : State) : List Report := s.lane.reports.map QueuedReport.report

/-- A downstream trunk frame with zero samples and the given lane bytes (11.2). -/
def trunkFrame (lane : List Byte) (valid : Byte) : List Byte :=
  frameBytes 0x47B8 (List.replicate 12 0 ++ lane ++ [valid])

/-- An upstream spur frame with zero samples, a reply and an event window (11.3). -/
def spurFrame (reply : Byte) (event : List Byte) : List Byte :=
  frameBytes 0x5C3B (List.replicate 48 0 ++ [reply, 0, 0] ++ event)

/-- An event window in which no station drives (11.3). -/
def noEvent : List Byte := List.replicate 11 0xFF

/-! ## What WellFormed refuses -/

theorem test_wf_trunk_frame_of_the_wrong_length : (Instr.trunkFrameReceive (some [0x47])).wellFormed = false := by
  decide
theorem test_wf_spur_frame_of_the_wrong_length : (Instr.spurFrameReceive 0 (some [0x5C])).wellFormed = false := by
  decide
theorem test_wf_payload_too_long : (Instr.setTiming 0 (List.replicate 61 0)).wellFormed = false := by decide +kernel
theorem test_wf_floor_payload_too_long : (Instr.floorGrant 0 (List.replicate 60 0)).wellFormed = false := by
  decide +kernel
theorem test_wf_known_kind_is_no_unknown_directive : (Instr.unknownDirective 0x17 0 []).wellFormed = false := by decide
theorem test_wf_unknown_payload_too_long : (Instr.unknownDirective 0x18 0 (List.replicate 61 0)).wellFormed = false := by
  decide +kernel
theorem test_wf_accepts :
    (Instr.unknownDirective 0x18 0 (List.replicate 60 0)).wellFormed = true ∧
      (Instr.trunkFrameReceive none).wellFormed = true ∧
      (Instr.spurFrameReceive 3 (some (spurFrame 0 noEvent))).wellFormed = true := by decide +kernel

/-! ## Numbers and frames -/

/-- Worked in Chapter 8 and 12.1: room 0 at 09:40. -/
theorem test_floor_sample_of_12_1 : floorSample 39383600000 198 = (535594, false) ∧
    floorSample 42598400000 194 = (460165, false) := by decide +kernel
/-- 12.4: room 2 at applied code 100, with and without station 41. -/
theorem test_floor_sample_of_12_4 : floorSample (650000 * 65536) 100 = (2053, false) ∧
    floorSample (250000 * 65536) 100 = (790, false) := by decide +kernel
/-- R152: a half goes to the higher sample, below zero too. -/
theorem test_halves_go_up : scaleOne 1 32768 = 1 ∧ scaleOne (-1) 32768 = 0 ∧ scaleOne (-3) 32768 = -1 := by decide
/-- R153: the sample range is not symmetric. -/
theorem test_clamp_ends : clampSample 8388608 = (8388607, true) ∧ clampSample (-8388608) = (-8388608, false) := by
  decide
/-- 12.1: the factors of codes 200, 212, 198 and 194 (R146). -/
theorem test_factors : gain 200 = 65536 ∧ gain 212 = 130762 ∧ gain 198 = 58409 ∧ gain 194 = 46396 := by decide +kernel
/-- 00, section 4.7: a stamp precedes another by less than half the range, across the wrap. -/
theorem test_stamps_wrap : precedes 0xFFFFFFFF 0 = true ∧ precedes 0 0xFFFFFFFF = false ∧ precedes 5 5 = false := by
  decide
/-- R192: the check starts from 0xFFFF and takes the most significant bit first; "123456789" gives 0x29B1. -/
theorem test_link_check : linkCheck [0x31, 0x32, 0x33, 0x34, 0x35, 0x36, 0x37, 0x38, 0x39] = 0x29B1 := by
  decide +kernel

/-! ## One step of each command -/

/-- R57, R58: after power-on sixteen rooms of one section each. -/
theorem test_power_on_rooms : (after .powerOn hall).map.live.get 15 = some 15 ∧
    (after .powerOn hall).pollSpacing = 480 := by decide +kernel
/-- R2: the counter wraps at 1,024 and the boundary falls due. -/
theorem test_epoch_wraps :
    (after (.framePeriodStart (.fill 24 .high)) { hall with trunk := { hall.trunk with epoch := 1023 } }).trunk.epoch = 0 ∧
    (after (.framePeriodStart (.fill 24 .high)) { hall with trunk := { hall.trunk with epoch := 1023 } }).trunk.epochDue =
      true := by decide +kernel
/-- R67: a boundary counts the settle time down. -/
theorem test_epoch_boundary_counts_down :
    (after .epochBoundary { hall with
      trunk := { hall.trunk with epochDue := true }
      map := { hall.map with phase := .pending, shadow := some hall.map.live, settleCount := 2 } }).map.settleCount =
      1 := by decide +kernel
/-- R192: only the lane bytes whose valid bit is set are handed on. -/
theorem test_trunk_frame_hands_valid_bytes :
    (after (.trunkFrameReceive (some (trunkFrame [0xA5, 1, 2, 3] 0b0101))) hall).handed =
      [.laneByte 0xA5, .laneByte 2] := by decide +kernel
/-- R3: a frame with a wrong check is a failed one. -/
theorem test_trunk_frame_fails :
    (after (.trunkFrameReceive (some ((trunkFrame [0, 0, 0, 0] 0).set 3 1))) hall).trunk.link = ⟨true, 1, 0⟩ := by
  decide +kernel
/-- R4: 48 bad periods. -/
theorem test_trunk_goes_down :
    let t := after .trunkLinkDown { hall with trunk := { hall.trunk with link := ⟨true, 48, 0⟩ } }
    t.trunk.link.up = false ∧ t.trunk.clock = .localOsc ∧ said t = [.lane .trunkLost] := by decide +kernel
/-- R4: the time DOWN is reported in whole seconds. -/
theorem test_trunk_comes_up :
    let t := after .trunkLinkUp { hall with
      trunk := { hall.trunk with link := ⟨false, 0, 480⟩, downFrames := 95999 } }
    t.trunk.link = ⟨true, 0, 0⟩ ∧ said t = [.lane (.trunkRestored 1)] := by decide +kernel
/-- R10: a PRESS of station 2 in the event window, and F one above its address. -/
theorem test_event_window :
    eventWindow 0 (List.replicate 51 0 ++ [0, 2, 0, 0, 0, 0, 0, 2, 0x11, 0, 0]) = (3, some (.press 0 1 2)) := by
  decide +kernel
/-- R12, R15: a period without a frame is a bad one. -/
theorem test_spur_frame_absent :
    let t := after (.spurFrameReceive 0 none) hall
    (t.spur 0).link.failRun = 1 ∧ (t.spur 0).badCount = 1 := by decide +kernel
/-- R13: a spur that goes DOWN has nothing out, and SPUR_DOWN is placed. -/
theorem test_spur_goes_down :
    let t := after (.spurLinkDown 3) (hall.updSpur 3 fun p => { p with link := ⟨true, 48, 0⟩, retry := [.resync] })
    (t.spur 3).link.up = false ∧ (t.spur 3).retry = [] ∧ said t = [.station (.spurDown 3)] := by decide +kernel
/-- R14: a spur that comes UP sends RESYNC first. -/
theorem test_spur_comes_up :
    ((after (.spurLinkUp 0) (hall.updSpur 0 fun p => { p with link := ⟨false, 0, 480⟩ })).spur 0).queue = [.resync] := by
  decide +kernel
/-- R21: a new station takes the lowest free address. -/
theorem test_join_takes_the_lowest_address :
    ((after (.join 1 99 0 1) hall).station 5).state = .joining ∧
    ((after (.join 1 99 0 1) hall).station 5).uid = 99 ∧
    ((after (.join 1 99 0 1) hall).spur 1).assign = [⟨5, 99, false⟩] := by decide +kernel
/-- R193: a JOIN of no station kind is discarded. -/
theorem test_join_of_no_kind : after (.join 1 99 2 0) hall = hall := by decide +kernel
/-- R84, R88: a press below max open is granted, with the reports of R82. -/
theorem test_press_is_granted :
    let t := after (.press 0 1 2) hall
    (t.station 1).mic = .onAir ∧ (t.station 1).talk = some 0 ∧ (t.spur 0).talkSlots.get 0 = some 1 ∧
      said t = [.floor ⟨.granted, some 1, some 0, .press, some 0, none⟩] := by decide +kernel
/-- R84: at max open a press is queued, and the head shows NEXT. -/
theorem test_press_is_queued :
    let t := after (.press 0 1 2) (room0 (onAir hall 0 0 7) fun r => { r with maxOpen := 1 })
    (t.station 1).mic = .queued ∧ (t.station 1).lamp = .next ∧ t.floor.pool = [⟨1, 0, false⟩] := by decide +kernel
/-- R89, R90: a release frees the slot, and the head of the queue takes the floor. -/
theorem test_release_advances_the_queue :
    let t := after (.release 0 0 1) (queued (room0 (onAir hall 0 0 7) fun r => { r with maxOpen := 1 }) 1 3)
    (t.station 0).mic = .off ∧ (t.station 1).mic = .onAir ∧ (t.station 1).talk = some 0 := by decide +kernel
/-- R87: a cancelled request leaves the pool. -/
theorem test_cancel_leaves_the_pool :
    let t := after (.cancel 0 1 2) (queued hall 1 3)
    t.floor.pool = [] ∧ (t.station 1).lamp = .off := by decide +kernel
/-- R91: NEXT from the chair grants the head at once. -/
theorem test_next_grants_the_head :
    let t := after (.next 0 0 1) (queued (room0 hall fun r => { r with mode := .request, chair := some 0 }) 1 3)
    (t.station 1).mic = .onAir ∧ t.floor.pool = [] := by decide +kernel
/-- R93, R94: the chair's priority mutes the delegates, and its release gives the floor back. -/
theorem test_priority_mutes :
    let t := after (.priorityPress 0 0 1) (onAir (onAir (room0 hall fun r => { r with chair := some 0 }) 0 0 1) 1 1 2)
    t.floor.priority.get 0 = true ∧ (t.station 1).lamp = .muted ∧ t.sources 0 = [0] := by decide +kernel
theorem test_priority_is_released :
    let s := onAir (onAir (room0 hall fun r => { r with chair := some 0 }) 0 0 1) 1 1 2
    let t := afterAll [.priorityPress 0 0 1, .priorityRelease 0 0 1] s
    t.floor.priority.get 0 = false ∧ (t.station 1).lamp = .onAir ∧ t.sources 0 = [0, 1] := by decide +kernel
/-- R118, R109: a console on the air makes its channel SERVED. -/
theorem test_console_on :
    let t := after (.consoleOn 0 3 4 0) hall
    (t.booth 0).onA = some 3 ∧ (t.channel 0).state = .served ∧ (t.station 3).lamp = .onAir := by decide +kernel
/-- R121: a console off the air leaves its output and its slot. -/
theorem test_console_off :
    let t := after (.consoleOff 0 3 4) (voicing hall 3 .a 0)
    (t.booth 0).onA = none ∧ (t.station 3).talk = none := by decide +kernel
/-- R133, R139: a selection of a served language takes the channel; with none of that code it falls back to the floor. -/
theorem test_select_resolves :
    ((after (.select 0 1 2 20) hall).station 1).resolved = some ⟨.channel 0, false⟩ ∧
    ((after (.select 0 1 2 33) hall).station 1).resolved = some ⟨.floor 0, true⟩ := by decide +kernel
/-- R32: the poll timer requests the lowest PRESENT station first. -/
theorem test_poll_timer :
    ((after (.pollTimerFire 0) (hall.updSpur 0 fun p => { p with pollTimer := 480 })).spur 0).pollRequest = some 0 := by
  decide +kernel
/-- R36: an expired record is EMPTY. -/
theorem test_lost_hold_expires :
    let t := after (.lostHoldExpiry 1) (hall.updStation 1 fun x => { x with state := .lost })
    (t.station 1).state = .empty ∧ said t = [.station (.expired 1 2 .holdElapsed)] := by decide +kernel
/-- R44, R51, R58: a wall that its line opens asks for a map in which its sections are together. -/
theorem test_wall_opens :
    let s : State := { hall with
      walls := hall.walls.set 0 ⟨true, some 0, some 1, some 5, .auto, false, false⟩
      lines := hall.lines.set 5 { Line.initial with fn := .wall 0, lastRaw := true, changeDue := true } }
    let t := after (.debouncedChange 5) s
    (t.wall 0).isOpen = true ∧ t.map.phase = .pending ∧ (t.map.shadow.map fun m => m.get 1) = some (some 0) := by
  decide +kernel
/-- R50: a re-assigned line is read again, and gives its wall its state. -/
theorem test_line_is_read_again :
    let s : State := { hall with
      walls := hall.walls.set 0 ⟨false, none, none, some 5, .auto, true, false⟩
      lines := hall.lines.set 5 { Line.initial with fn := .wall 0, reread := true, rereadDue := true } }
    let t := after (.lineReRead 5) s
    (t.wall 0).isOpen = false ∧ (t.line 5).reread = false := by decide +kernel
/-- Two sections joined by a wall that has just opened: 12.3 and 12.5 in small. -/
def merging : State :=
  { hall with
    map := { hall.map with
      phase := .fadeOut, shadow := some (hall.map.live.set 1 (some 0)), affected := (Tab.fill 16 false).set 0 true } }
/-- R59, R73: the merged room keeps its own record, and the id that lost its sections is reported closed. -/
theorem test_swap_reports : merging.swapReports (hall.map.live.set 1 (some 0)) false =
    [.map (.room 0 3 .claimed none none false false), .map (.closed 1 false)] := by decide +kernel
/-- R71: the end of the changeover. -/
theorem test_fade_in_ends :
    let t := after .fadeInEnd { hall with map := { hall.map with phase := .fadeIn } }
    t.map.phase = .steady ∧ said t = [.map .complete] := by decide +kernel
/-- R149: an applied code moves one step in a computation; 12.3 counts 198 computations from 198 to 0. -/
theorem test_ramp : (after .frameComputation hall).mix.applied.get 0 = 1 ∧ stepCode 198 0 = 197 := by decide +kernel
/-- R98: the warning period begins 30 seconds before the limit. -/
theorem test_warning_period :
    let s := (onAir (room0 hall fun r => { r with speakLimit := 60 }) 1 0 3).updStation 1 fun x => { x with seconds := 30 }
    ((after (.warningPeriodStart 1) s).station 1).lamp = .warning := by decide +kernel
/-- R98: at the limit the microphone is closed. -/
theorem test_speak_limit :
    let s := (onAir (room0 hall fun r => { r with speakLimit := 60 }) 1 0 3).updStation 1 fun x => { x with seconds := 60 }
    said (after (.speakLimitClose 1) s) = [.floor ⟨.closed, some 1, some 0, .time, none, none⟩] := by decide +kernel
/-- R99: a silence of one second closes the microphone. -/
theorem test_silence :
    let s := (onAir (room0 hall fun r => { r with silenceTimeout := 1 }) 1 0 3).updStation 1
      fun x => { x with silence := 48000 }
    said (after (.silenceClose 1) s) = [.floor ⟨.closed, some 1, some 0, .silence, none, none⟩] := by decide +kernel
/-- R175, R176: MAP_QUERY, tag 7: its bytes sum to 0 from the kind to the check. -/
theorem test_lane_bytes_make_a_directive :
    (afterAll ([0xA5, 0x16, 7, 0, 0xE3].map .laneByte) hall).lane.directives = [⟨0x16, 7, []⟩] := by decide +kernel
/-- R177: nine periods without a byte; four bytes had been taken, the tag among them. -/
theorem test_frame_timeout :
    let s := afterAll ([0xA5, 0x16, 7, 2].map .laneByte) hall
    let s : State := s.setAssembly { s.lane.assembly with gap := 9 }
    said (after .frameTimeout s) = [.lane (.frameTimeout 4 (some 7))] := by decide +kernel
/-- R182: the waiting directive is executed and answered. -/
theorem test_directive_execution :
    let s : State := { hall with lane := { hall.lane with directives := [⟨0x17, 7, [0x04]⟩] } }
    said (after .directiveExecution s) = [.result 0x17 7 .badField .nothing] := by decide +kernel

/-! ## One step of each directive -/

theorem test_unknown_kind : said (after (.unknownDirective 0x18 7 []) hall) = [.result 0x18 7 .badField .nothing] := by
  decide +kernel
theorem test_part_query_of_a_payload :
    said (after (.partQuery 7 [0]) hall) = [.result 0x01 7 .badLength .nothing] := by decide +kernel
/-- R195: the identity code, the design step and the first capacity stand at the front of PART_QUERY's data. -/
theorem test_part_query_bytes : (ResultData.part hall.partData).bytes.take 5 = [0xC4, 0x16, 0x03, 0x00, 0xC0] := by
  decide +kernel
theorem test_warm_restart_clears_records :
    ((after (.warmRestart 7 []) hall).station 1).state = .empty ∧
    ((after (.warmRestart 7 []) hall).spur 2).queue = [.resync] := by decide +kernel
/-- R39: a poll spacing of 5,000 is adjusted to 4,096; R67: a settle setting above 255 refuses the directive. -/
theorem test_set_timing_clamps :
    (after (.setTiming 7 [1, 0x13, 0x88]) hall).pollSpacing = 4096 ∧
    said (after (.setTiming 7 [4, 0x01, 0x00]) hall) = [.result 0x03 7 .badField .nothing] := by decide +kernel
theorem test_bind_seat :
    (after (.bindSeat 7 [0, 0, 0, 0, 0, 9, 10, 1, 2]) hall).bindings = [⟨9, 9, some 2, none, none⟩] := by decide +kernel
theorem test_unbind_seat_not_found :
    said (after (.unbindSeat 7 [0, 0, 0, 0, 0, 9]) hall) = [.result 0x05 7 .notFound .nothing] := by decide +kernel
theorem test_station_query_of_no_address :
    said (after (.stationQuery 7 [0]) hall) = [.result 0x07 7 .badField .nothing] := by decide +kernel
/-- R48, R58, R65: a section out of service has no room in the map that is then computed, and its removal is a service
change. -/
theorem test_section_out_of_service :
    let s : State := { hall with sections := hall.sections.set 3 false }
    s.candidate.get 3 = none ∧ s.candidate.get 4 = some 4 ∧ s.serviceChange = true := by decide +kernel
/-- R52: a wall in use needs both sections. -/
theorem test_wall_set_without_sections :
    said (after (.wallSet 7 [0, 1, 1]) hall) = [.result 0x09 7 .badField .nothing] := by decide +kernel
theorem test_wall_query_clears :
    (after (.wallQuery 7 [23, 1]) (hall.updWall 23 fun w => { w with changed := true })).wall 23 = Wall.initial := by
  decide +kernel
/-- R45: function WALL with target 2; R46: its wall takes the line. -/
theorem test_line_set : (after (.lineSet 7 [5, 1, 1, 2]) hall).wall 2 = { Wall.initial with contact := some 5 } := by
  decide +kernel
/-- R60: max open 9 is adjusted to 8. -/
theorem test_profile_set :
    (after (.profileSet 7 [31, 0x00, 0x03, 0x00, 0x02, 9]) hall).map.profiles.get 31 =
      some ⟨3, ⟨none, some 8, none, none, none, none, none, none, none, none, none, none, none⟩⟩ := by decide +kernel
theorem test_profile_clear :
    said (after (.profileClear 7 [31]) hall) = [.result 0x0D 7 .notFound .nothing] := by decide +kernel
/-- R100: a lower max open closes the delegate granted last. -/
theorem test_room_set_trims :
    let t := after (.roomSet 7 [0, 0x00, 0x02, 1]) (onAir (onAir hall 0 0 1) 1 1 2)
    (t.station 0).mic = .onAir ∧ (t.station 1).mic = .off := by decide +kernel
theorem test_room_query_clears_clip :
    let s : State := { hall with mix := { hall.mix with clip := .fill 16 9 } }
    (after (.roomQuery 7 [0]) s).mix.clip.get 0 = 0 ∧ (after (.roomQuery 7 [0]) s).mix.clip.get 1 = 9 := by
  decide +kernel
theorem test_map_query : said (after (.mapQuery 7 []) hall) = [.result 0x16 7 .ok (.map hall.mapData)] := by
  decide +kernel
theorem test_floor_grant_head :
    ((after (.floorGrantHead 7 [0]) (queued hall 1 3)).station 1).mic = .onAir := by decide +kernel
theorem test_floor_grant_at_limit :
    said (after (.floorGrant 7 [2]) (queued (room0 (onAir hall 0 0 1) fun r => { r with maxOpen := 1 }) 1 3)) =
      [.result 0x10 7 .busy .nothing] := by decide +kernel
theorem test_floor_close : said (after (.floorClose 7 [2]) (onAir hall 1 0 3)) =
    [.floor ⟨.closed, some 1, some 0, .directive, none, none⟩, .result 0x10 7 .ok (.floor [1])] := by decide +kernel
theorem test_floor_cancel : (after (.floorCancel 7 [2]) (queued hall 1 3)).floor.pool = [] := by decide +kernel
theorem test_floor_clear_queue :
    (said (after (.floorClearQueue 7 [0]) (queued (queued hall 1 3) 2 2))).getLast? =
      some (.result 0x10 7 .ok (.floor [2, 1])) := by decide +kernel
theorem test_floor_close_all :
    (said (after (.floorCloseAll 7 [0]) (onAir (onAir hall 1 0 9) 2 1 4))).getLast? =
      some (.result 0x10 7 .ok (.floor [2, 1])) := by decide +kernel
theorem test_queue_query_of_no_room :
    said (after (.queueQuery 7 [16]) hall) = [.result 0x11 7 .badField .nothing] := by decide +kernel
/-- R124: a booth with an anchor needs output A. -/
theorem test_booth_set_without_output :
    said (after (.boothSet 7 [2, 1, 0]) hall) = [.result 0x12 7 .badField .nothing] := by decide +kernel
theorem test_booth_query_of_no_booth :
    said (after (.boothQuery 7 [9]) hall) = [.result 0x13 7 .badField .nothing] := by decide +kernel
/-- R111: a channel that carries its room's floor language follows the floor. -/
theorem test_channel_set :
    let t := after (.channelSet 7 [1, 1, 44]) (room0 hall fun r => { r with language := 44 })
    (t.channel 0).state = .floorFollow := by decide +kernel
/-- R167, R168: ANNOUNCE ON while line 2 is an active source changes the source set, and the code carried is taken. -/
theorem test_announce :
    let s : State := { hall with lines := hall.lines.set 2 { Line.initial with fn := .override, debounced := true } }
    (said (after (.announce 7 [1, 1, 190]) s)).head? =
      some (.override (.sources .changed .directive none true [2] 190)) := by decide +kernel
theorem test_spur_query_clears_bad_count :
    ((after (.spurQuery 7 [0]) (hall.updSpur 0 fun p => { p with badCount := 5 })).spur 0).badCount = 0 := by
  decide +kernel

/-! ## Witnesses: the queue of commands and the invariants -/

/-- The hall with a speaker, a request, a console on the air and two commands waiting. -/
def busy : State :=
  { (queued (voicing (onAir hall 0 0 1) 3 .a 1) 1 5) with pending := [.mapQuery 1 [], .partQuery 2 []] }

theorem witness_StepTakesTheFrontCommand :
    busy.pending = .mapQuery 1 [] :: [.partQuery 2 []] ∧ hall.pending = [] ∧ hall.dueStep = none ∧
      ({ hall with trunk := { hall.trunk with epochDue := true } } : State).dueStep = some .epochBoundary := by
  decide +kernel

theorem witness_StepKeepsTheSizesAndRanges : busy.inBounds ∧ ∃ t, step busy = .next t := by
  refine ⟨?_, _, rfl⟩
  unfold State.inBounds Link.inBounds Spur.inBounds FloorUnit.inBounds MixUnit.inBounds LaneUnit.inBounds Link.inBounds
    sampleInRange
  decide +kernel

theorem witness_StepKeepsSlotsAndRequestsInAgreement : busy.slotsAgree ∧ ∃ t, step busy = .next t := by
  refine ⟨?_, _, rfl⟩
  unfold State.slotsAgree State.slotTable State.poolTable
  decide +kernel

theorem witness_StepKeepsSlotsAndRequestsInAgreement_consoles :
    busy.slotsAgree ∧ busy.consolesOff ∧ (busy.station 3).kind = .console ∧ ∃ t, step busy = .next t := by
  refine ⟨witness_StepKeepsSlotsAndRequestsInAgreement.1, ?_, by decide +kernel, _, rfl⟩
  unfold State.consolesOff
  decide +kernel

theorem witness_StepKeepsOpenMicrophonesWithinMaxOpen : busy.slotsAgree ∧ busy.withinMaxOpen ∧
    ∃ t, step busy = .next t := by
  refine ⟨witness_StepKeepsSlotsAndRequestsInAgreement.1, ?_, _, rfl⟩
  unfold State.withinMaxOpen
  decide +kernel

theorem witness_StepKeepsOneVoicePerLanguage : busy.oneVoice ∧ ∃ t, step busy = .next t := by
  refine ⟨?_, _, rfl⟩
  unfold State.oneVoice
  decide +kernel

/-- The hall while a wall that has just opened waits for its changeover. -/
def waiting : State :=
  { hall with
    walls := hall.walls.set 0 ⟨true, some 0, some 1, none, .auto, true, true⟩
    map := { hall.map with phase := .pending, shadow := some (hall.map.live.set 1 (some 0)), settleCount := 2 }
    trunk := { hall.trunk with epochDue := true } }

theorem witness_StepKeepsEnabledSectionsPlaced : waiting.sectionsPlaced ∧ ∃ t, step waiting = .next t := by
  refine ⟨⟨by decide +kernel, ?_⟩, _, rfl⟩
  intro m h
  cases (Option.some.inj h)
  decide +kernel

theorem witness_StepKeepsJoinedSectionsTogether : waiting.sectionsPlaced ∧ waiting.joinedTogether ∧
    ∃ t, step waiting = .next t := by
  refine ⟨witness_StepKeepsEnabledSectionsPlaced.1, ⟨rfl, hall.map.live.set 1 (some 0), rfl, ?_⟩,
    witness_StepKeepsEnabledSectionsPlaced.2⟩
  unfold State.joins
  decide +kernel

/-! ## Witnesses: encodings -/

/-- Orders at the ends of their fields' ranges. -/
theorem witness_WrittenPayloadsAreReadBack :
    (Order.setTiming (some 65535) none (some 255)).carried = true ∧
    (Order.bindSeat 0xFFFFFFFFFFFF 191 (some 15) (some (some 63)) (some (some (7, 2)))).carried = true ∧
    (Order.stationSet 0 (some none) (some none) (some none) (some 255) (some 63)).carried = true ∧
    (Order.sectionSet [(0, true), (15, false)]).carried = true ∧ (Order.wallQuery 23 1).carried = true ∧
    (Order.wallQuery 0 24).carried = true ∧
    (Order.profileSet 31 0xFFFF ⟨some .request, some 255, some false, some 65535, some 255, some 255, some 255,
      some none, some 0, some 63, some .followSpeaker, some (some 191), some .clear⟩).carried = true ∧
    (Order.boothSet 7 (some none) (some [1, 2, 3, 63]) (some (some 11)) (some none) none).carried = true := by
  decide

/-- A trunk frame whose samples stand at both ends of their range, with all four lane bytes, and a spur frame with the
highest threshold. -/
theorem witness_SentFramesPassTheLinkCheck :
    let f : TrunkOut := ⟨.fill 16 (-8388608), .fill 12 8388607, [0x5A, 0, 0xFF, 1], true⟩
    let g : SpurOut := ⟨.fill 16 8388607, some .resync, 193⟩
    f.bytes.length ≤ 4 ∧ (∀ r, sampleInRange (f.floors.get r)) ∧ (∀ l, sampleInRange (f.channels.get l)) ∧
      (∀ k, sampleInRange (g.listen.get k)) ∧ g.threshold ≤ 193 := by
  unfold sampleInRange
  decide +kernel

/-- A queue with one entry left, and full ones with and without an entry reserved. -/
theorem witness_ReportsAreQueuedAndFramed :
    let l := fun n r => ({ hall.lane with reports := List.replicate n ⟨.lane .trunkLost, false⟩, reserved := r } : LaneUnit)
    (l 63 false).reports.length < (if (l 63 false).reserved then 63 else 64) ∧
    (l 62 true).reports.length < (if (l 62 true).reserved then 63 else 64) ∧
    (if (l 63 true).reserved then 63 else 64) ≤ (l 63 true).reports.length ∧
    (if (l 64 false).reserved then 63 else 64) ≤ (l 64 false).reports.length := by
  decide

/-! ## Witnesses: links -/

/-- The hall with its trunk DOWN. -/
def cut : State := { hall with trunk := { hall.trunk with link := ⟨false, 0, 479⟩ } }

theorem witness_TrunkFrameIsTakenAsClassified :
    (∃ fields, classify 0x47B8 21 (some (trunkFrame [1, 2, 3, 4] 0x0F)) = .good fields) ∧
    hall.trunk.link.up = true ∧ hall.trunk.link.due = false ∧ (classify 0x47B8 21 none).isGood = false ∧
    (afterAll [.laneByte 0xA5] hall).lane.assembly.state ≠ .waitStart ∧
    cut.trunk.link.up = false ∧ cut.trunk.link.due = false ∧
    (classify 0x47B8 21 (some (trunkFrame [1, 2, 3, 4] 0x0F))).isGood = true := by
  have h := classify_frameBytes 0x47B8 (List.replicate 12 0 ++ [1, 2, 3, 4] ++ [0x0F])
  refine ⟨⟨_, h⟩, by decide +kernel, by decide +kernel, by decide +kernel, by decide +kernel, by decide +kernel,
    by decide +kernel, ?_⟩
  exact congrArg Arrival.isGood h

theorem witness_TrunkLinkChangesState :
    let s : State := { hall with trunk := { hall.trunk with link := ⟨true, 48, 0⟩ } }
    let t : State := { hall with trunk := { hall.trunk with link := ⟨false, 0, 480⟩ } }
    s.trunk.link.up = true ∧ 48 ≤ s.trunk.link.failRun ∧ t.trunk.link.up = false ∧ 480 ≤ t.trunk.link.goodRun := by
  decide +kernel

/-- The hall with spur 1 DOWN. -/
def spurCut : State := hall.updSpur 1 fun p => { p with link := ⟨false, 0, 479⟩ }

theorem witness_SpurFrameIsTakenAsClassified :
    (hall.spur 0).remembered = none ∧ (hall.spur 0).link.up = true ∧ (hall.spur 0).link.due = false ∧
    (spurCut.spur 1).link.up = false ∧ (spurCut.spur 1).link.due = false ∧
    (classify 0x5C3B 66 none).isGood = false := by
  decide +kernel

/-- R11: a broadcast has no outcome. -/
theorem witness_SpurFrameIsTakenAsClassified_broadcast :
    let s := hall.updSpur 0 fun p => { p with remembered := some .resync }
    (∀ a b, (s.spur 0).remembered ≠ some (.to a b)) ∧ (s.spur 0).link.up = true := by
  have h : ((hall.updSpur 0 fun p => { p with remembered := some .resync }).spur 0).remembered = some .resync := by
    decide +kernel
  refine ⟨fun a b => ?_, by decide +kernel⟩
  rw [h]
  nofun

/-- A good upstream frame, whose reply window carries a byte. -/
theorem witness_good_spur_frame (reply : Byte) :
    ∃ fields, classify 0x5C3B 66 (some (spurFrame reply noEvent)) = .good fields :=
  ⟨_, classify_frameBytes 0x5C3B (List.replicate 48 0 ++ [reply, 0, 0] ++ noEvent)⟩

/-- Event windows at the ends of the rows of R10's table. -/
theorem witness_SpurFrameIsTakenAsClassified_window :
    (List.replicate 51 (0 : Byte)).length = 51 ∧ (1 : Byte) ≠ 0 ∧
    (193 ≤ (193 : Byte).toNat ∧ (193 : Byte).toNat ≤ 254) ∧ (193 ≤ (254 : Byte).toNat ∧ (254 : Byte).toNat ≤ 254) := by
  decide

/-- A LAMP out to station 2, which has missed no reply or two. -/
theorem witness_MissedRepliesAreCounted :
    let s := fun n => (hall.updStation 1 fun x => { x with missed := n }).updSpur 0
      fun p => { p with remembered := some (.to 1 (.lamp .off)) }
    ((s 0).spur 0).link.up = true ∧ ((s 0).spur 0).remembered = some (.to 1 (.lamp .off)) ∧
    (∀ u, CommandBody.lamp .off ≠ .assign u) ∧ ((s 0).station 1).state = .present ∧ ((s 0).station 1).missed < 2 ∧
    ((s 2).station 1).state = .present ∧ 2 ≤ ((s 2).station 1).missed ∧ (s 2).hasReportRoom ∧
    classify 0x5C3B 66 none = .absent := by
  refine ⟨by decide +kernel, by decide +kernel, (fun _ h => nomatch h), ?_⟩
  unfold State.hasReportRoom
  decide +kernel

/-- An ASSIGN out to station 6, which is JOINING with uid 99 and has missed n replies. -/
def assigning (n : Nat) : State :=
  (hall.updStation 5 fun x => { x with state := .joining, uid := 99, missed := n }).updSpur 0 fun p =>
    { p with remembered := some (.to 5 (.assign 99)), assign := [⟨5, 99, true⟩] }

theorem witness_MissedRepliesAreCounted_assign :
    (((assigning 0).spur 0).link.up = true ∧ ((assigning 0).spur 0).remembered = some (.to 5 (.assign 99)) ∧
      ((assigning 0).station 5).state = .joining ∧ ((assigning 0).station 5).uid = 99 ∧
      ((assigning 0).station 5).spur = 0 ∧ ((assigning 0).station 5).missed < 2 ∧
      2 ≤ ((assigning 2).station 5).missed ∧ (assigning 0).hasReportRoom ∧
      ((hall.updSpur 0 fun p => { p with remembered := some (.to 1 (.assign 99)) }).station 1).state ≠ .joining) ∧
    (∃ fields, classify 0x5C3B 66 (some (spurFrame 6 noEvent)) = .good fields ∧
      (spurReply fields).toNat = (5 : Addr).val + 1) ∧
    ∃ fields, classify 0x5C3B 66 (some (spurFrame 7 noEvent)) = .good fields ∧
      (spurReply fields).toNat ≠ (5 : Addr).val + 1 := by
  refine ⟨?_, ⟨_, classify_frameBytes 0x5C3B (List.replicate 48 0 ++ [6, 0, 0] ++ noEvent), by decide⟩,
    ⟨_, classify_frameBytes 0x5C3B (List.replicate 48 0 ++ [7, 0, 0] ++ noEvent), by decide⟩⟩
  unfold State.hasReportRoom
  decide +kernel

theorem witness_SpurLinkUpPlacesResync :
    let s := hall.updSpur 1 fun p => { p with link := ⟨false, 0, 480⟩ }
    (s.spur 1).link.up = false ∧ 480 ≤ (s.spur 1).link.goodRun := by decide +kernel

theorem witness_SpurLinkDownLosesItsStations :
    let s := hall.updSpur 0 fun p => { p with link := ⟨true, 48, 0⟩ }
    (s.spur 0).link.up = true ∧ 48 ≤ (s.spur 0).link.failRun ∧ (s.station 1).active = true ∧ (s.station 1).spur = 0 ∧
      s.hasReportRoom := by
  unfold State.hasReportRoom
  decide +kernel

theorem witness_FramePeriodSendsItsFrames :
    hall.dueStep = none ∧ cut.dueStep = none ∧ spurCut.dueStep = none ∧ hall.trunk.link.up = true ∧
    cut.trunk.link.up = false ∧ (hall.spur 0).link.up = true ∧ (spurCut.spur 1).link.up = false ∧
    hall.lane.sent < (hall.lane.reports.headD ⟨.lane .trunkLost, false⟩).bytes.length := by decide +kernel

/-- A LOST record, and a delegate in the last frame of a second. -/
def counting : State :=
  (onAir hall 1 0 3).updStation 1 fun x => { x with subFrames := 47999, seconds := 3599 }

theorem witness_FramePeriodCountsItsFrames :
    counting.dueStep = none ∧ counting.trunk.started = true ∧ State.reset.dueStep = none ∧
    State.reset.trunk.started = false ∧ (counting.station 1).mic = .onAir ∧ counting.stationRoom 1 = some 0 ∧
    counting.isChair 0 1 = false ∧ 48000 ≤ (counting.station 1).subFrames + 1 ∧
    ((onAir hall 1 0 3).station 1).subFrames + 1 < 48000 ∧
    ((hall.updStation 1 fun x => { x with state := .lost, holdLeft := 1 }).station 1).state = .lost := by
  decide +kernel

theorem witness_FramePeriodCountsItsFrames_kept :
    (hall.station 1).state ≠ .lost ∧ (hall.station 1).mic ≠ .onAir ∧
    (room0 (onAir hall 0 0 7) fun r => { r with chair := some 0 }).isChair 0 0 = true ∧
    ((onAir hall 1 0 3).updStation 1 fun x => { x with sec := none }).stationRoom 1 = none := by decide +kernel

/-- A spur with something of every kind to send. -/
def sending : State :=
  hall.updSpur 0 fun p => { p with
    assign := [⟨7, 8, true⟩, ⟨8, 9, false⟩], retry := [.to 1 .poll], queue := [.to 2 (.lamp .off)],
    hold := some (.to 1 (.talk none)), marks := [(0, .lamp)], pollRequest := some 0 }

theorem witness_CommandWindowIsFilledInOrder :
    sending.dueStep = none ∧ (sending.spur 0).link.up = true ∧
    (sending.spur 0).assign.find? (fun e => !e.awaiting) = some ⟨8, 9, false⟩ ∧
    (let p : Spur := { sending.spur 0 with assign := [] }
     p.assign.find? (fun e => !e.awaiting) = none ∧ p.retry = .to 1 .poll :: []) ∧
    (let p : Spur := { sending.spur 0 with assign := [], retry := [] }
     p.queue = .to 2 (.lamp .off) :: [] ∧ p.hold = some (.to 1 (.talk none))) ∧
    (let p : Spur := { sending.spur 0 with assign := [], retry := [], hold := none }
     p.marks = (0, .lamp) :: []) ∧
    (let p : Spur := { sending.spur 0 with assign := [], retry := [], hold := none, marks := [], queue := [] }
     p.pollRequest = some 0) := by decide +kernel

/-- A spur with a LAMP for station 8 waiting among n TALK entries, and marks. -/
def crammed (n : Nat) (ms : List (Addr × MarkKind)) : Spur :=
  { Spur.initial with
    queue := List.replicate n (.to 5 (.talk none)) ++ [.to 7 (.lamp .onAir), .to 6 (.talk none)], marks := ms }

/-- R27, R28: an offer finds a waiting command of its own, a free entry, a full queue with and without a LAMP, the
overflow hold or a mark. -/
theorem witness_CommandWindowIsFilledInOrder_offer :
    (hall.station 9).state ≠ .present ∧ (hall.station 1).state = .present ∧
    (CommandBody.lamp .off).markKind = some .lamp ∧
    Command.to 7 (.lamp .onAir) ∈ (crammed 30 []).queue ∧ (crammed 30 []).hold = none ∧ (crammed 30 []).marks = [] ∧
    (crammed 29 []).queue.length < 32 ∧ 32 ≤ (crammed 30 []).queue.length ∧
    (crammed 30 []).queue = List.replicate 30 (.to 5 (.talk none)) ++ .to 7 (.lamp .onAir) :: [.to 6 (.talk none)] ∧
    (crammed 30 [(7, .tune)]).marks.Nodup ∧ (crammed 30 [(7, .tune)]).marks ≠ [] := by decide +kernel

theorem witness_CommandWindowIsFilledInOrder_none_waits :
    ∀ c ∈ (crammed 30 []).queue, ¬∃ b, c = .to 1 b ∧ b.markKind = some .lamp := by
  rintro c hc ⟨b, rfl, -⟩
  simp [crammed] at hc

/-- R28: the newest LAMP of a full queue gives way. -/
theorem test_newest_lamp_gives_way :
    ((crammed 30 []).offer 1 (.lamp .off)).marks = [(7, .lamp)] ∧
    ((crammed 30 []).offer 1 (.lamp .off)).queue.drop 30 = [.to 6 (.talk none), .to 1 (.lamp .off)] := by
  decide +kernel

/-! ## Witnesses: the registry -/

theorem witness_JoinPlacesAFreshRecord :
    (hall.spur 0).link.up = true ∧ ((0 : Byte) = 0 ∨ (0 : Byte) = 1) ∧
    (∀ x, (hall.station x).state ≠ .empty → (hall.station x).uid ≠ 99) ∧ (∀ b ∈ hall.bindings, b.uid ≠ 99) ∧
    (hall.station 5).state = .empty ∧ (∀ b ∈ hall.bindings, b.addr ≠ 5) ∧
    (∀ x : Addr, x < 5 → (hall.station x).state ≠ .empty ∨ ∃ b ∈ hall.bindings, b.addr = x) ∧
    hall.stationsOn 0 < 48 := by decide +kernel

/-- A spur with 48 stations, and its next free address. -/
theorem witness_JoinPlacesAFreshRecord_full :
    let s : State := { hall with stations := .ofFn fun a => if a.val < 48 then delegate a.val else .initial }
    48 ≤ s.stationsOn 0 ∧ (s.station 48).state = .empty ∧
      (∀ x, (s.station x).state ≠ .empty → (s.station x).uid ≠ 99) ∧
      ∀ x : Addr, x < 48 → (s.station x).state ≠ .empty ∨ ∃ b ∈ s.bindings, b.addr = x := by decide +kernel

/-- The hall with a binding of uid 99 to an address, for console 1 of booth 1, which station 4 is, or for console 3. -/
def bound (a : Addr) (n : ConsoleIx) : State := { hall with bindings := [⟨99, a, some 2, some 7, some (0, n)⟩] }

theorem witness_JoinPlacesAFreshRecord_bound :
    (∀ x, ((bound 9 0).station x).state ≠ .empty → ((bound 9 0).station x).uid ≠ 99) ∧ (bound 9 0).stationsOn 0 < 48 ∧
    (∀ b ∈ (bound 9 0).bindings, b.uid = 99 ∧ b = ⟨99, 9, some 2, some 7, some (0, 0)⟩) ∧
    ((bound 9 0).station 9).state = .empty ∧ ((bound 1 0).station 1).state ≠ .empty ∧
    ((bound 9 0).station 3).booth = some (0, 0) ∧
    ∀ x : Addr, x ≠ 9 → ((bound 9 2).station x).state ≠ .empty → ((bound 9 2).station x).booth ≠ some (0, 2) := by
  decide +kernel

/-- Every address holds a LOST station of spur 1. -/
def populous : State :=
  { hall with stations := .fill 192 { delegate 6 with state := .lost, spur := 1 } }

theorem witness_JoinPlacesAFreshRecord_no_address :
    (∀ x, (populous.station x).state ≠ .empty ∨ ∃ b ∈ populous.bindings, b.addr = x) ∧
    (∀ x, (populous.station x).state ≠ .empty → (populous.station x).uid ≠ 999) ∧ populous.stationsOn 0 < 48 := by
  decide +kernel

theorem witness_JoinPlacesAFreshRecord_again :
    let s := hall.updStation 1 fun x => { x with state := .joining }
    (hall.station 1).state = .present ∧ (s.station 1).state = .joining ∧ (hall.station 1).uid = 2 ∧
    (∀ x, x ≠ 1 → (hall.station x).state ≠ .empty → (hall.station x).uid ≠ 2) ∧
    hall.stationsOn 0 < (if (hall.station 1).spur = 0 then 49 else 48) ∧
    hall.stationsOn 1 < (if (hall.station 1).spur = 1 then 49 else 48) ∧ hall.hasReportRoom := by
  unfold State.hasReportRoom
  decide +kernel

theorem witness_ReturningStationKeepsItsSettings :
    let s := hall.updStation 1 fun x => { x with state := .lost, holdLeft := 5 }
    (s.spur 0).link.up = true ∧ s.stationsOn 0 < 48 ∧ (s.station 1).state = .lost ∧ (s.station 1).uid = 2 ∧
      ∀ x, x ≠ 1 → (s.station x).state ≠ .empty → (s.station x).uid ≠ 2 := by decide +kernel

theorem witness_EventsTheRegistryDiscards :
    (hall.spur 0).link.up = true ∧ Instr.press 0 1 2 ∈ stationEvents 0 1 2 ∧
    Instr.select 0 1 2 63 ∈ stationEvents 0 1 2 ∧ (hall.station 9).state = .empty ∧ (hall.station 1).uid ≠ 7 ∧
    (hall.station 1).state ≠ .lost ∧ (hall.station 1).spur ≠ 1 ∧ hall.addressed 0 1 2 ∧
    (hall.station 1).kind = .delegate ∧ hall.addressed 0 3 4 ∧ (hall.station 3).kind = .console ∧
    Instr.press 0 3 4 ∈ stationEvents 0 3 4 ∧ Instr.press 0 3 4 ≠ .consoleOff 0 3 4 ∧
    ((hall.updStation 1 fun x => { x with key := false }).station 1).key = false := by
  unfold State.addressed
  decide +kernel

theorem witness_EventsTheRegistryDiscards_arguments :
    (hall.spur 0).link.up = true ∧ 1 < (2 : Byte).toNat ∧ 0x3F < (0x40 : Byte).toNat := by decide +kernel

theorem witness_EventsTheRegistryDiscards_joining :
    let s := hall.updStation 1 fun x => { x with state := .joining }
    let t := hall.updStation 1 fun x => { x with state := .lost }
    (s.spur 0).link.up = true ∧ (s.station 1).state = .joining ∧ (s.station 1).uid = 2 ∧ (s.station 1).spur = 0 ∧
    s.hasReportRoom ∧ (t.station 1).state = .lost ∧ (t.station 1).uid = 2 ∧ t.stationsOn 0 < 48 ∧
    ∀ x, x ≠ 1 → (t.station x).state ≠ .empty → (t.station x).uid ≠ 2 := by
  unfold State.hasReportRoom
  decide +kernel

theorem witness_RegistryTimersFire :
    let s := hall.updSpur 0 fun p => { p with pollTimer := 480, lastPolled := some 4 }
    let t := hall.updSpur 0 fun p => { p with pollTimer := 480, lastPolled := some 1 }
    let u := hall.updStation 1 fun x => { x with state := .lost }
    s.pollSpacing ≤ (s.spur 0).pollTimer ∧ (s.spur 0).pollRequest = none ∧ (s.station 0).state = .present ∧
    (s.station 0).spur = 0 ∧ (∀ b, (s.station b).state = .present → (s.station b).spur = 0 → 0 ≤ b) ∧
    (∀ b, (s.station b).state = .present → (s.station b).spur = 0 → b ≤ 4) ∧ (1 : Addr) < 2 ∧
    (∀ b, (1 : Addr) < b → (t.station b).state = .present → (t.station b).spur = 0 → 2 ≤ b) ∧
    (∀ a, ¬((hall.station a).state = .present ∧ (hall.station a).spur = 3)) ∧
    (u.station 1).state = .lost ∧ (u.station 1).holdLeft = 0 := by decide +kernel

/-! ## Witnesses: directives -/

theorem hall_ready : hall.ready := by unfold State.ready; decide +kernel

theorem witness_DirectivesAreAnsweredOnce :
    directiveOf (.mapQuery 7 []) = some ⟨0x16, 7, []⟩ ∧ hall.ready ∧ knownKind 0x18 = false ∧ knownKind 0 = false ∧
    examine 0x17 [4] = .refused .badField ∧ examine 0x17 [3] = .order (.spurQuery 3) := by
  refine ⟨rfl, hall_ready, ?_⟩
  decide +kernel

theorem witness_SeatBindingsAreAddedAndRemoved :
    let s : State := { hall with bindings := [⟨50, 60, none, none, some (0, 2)⟩] }
    let u := s.updStation 8 fun x => { x with state := .lost, uid := 77 }
    s.ready ∧ u.ready ∧ (∀ b ∈ s.bindings, b.uid ≠ 9 ∧ b.addr ≠ 8) ∧ (s.station 8).state = .empty ∧
    (u.station 8).state = .lost ∧ (u.station 8).uid ≠ 9 ∧ (∃ b ∈ s.bindings, b.uid = 50) ∧
    (∃ b ∈ s.bindings, b.addr = 60) ∧ (∃ b ∈ s.bindings, b.booth = some (0, 2)) ∧
    (s.station 1).state = .present ∧ (s.station 1).uid ≠ 9 ∧ ∀ b ∈ s.bindings, b.uid ≠ 9 := by
  unfold State.ready
  decide +kernel

theorem witness_StationSetWritesItsFields :
    let s := hall.updStation 3 fun x => { x with booth := some (0, 0) }
    s.ready ∧ (s.station 4).state ≠ .empty ∧ (s.station 4).kind = .console ∧
    (∀ (b : Addr) (x : BoothIx × ConsoleIx), b ≠ 4 → (s.station b).state ≠ .empty → some (0, 2) = some x →
      (s.station b).booth ≠ some x) ∧
    (s.station 1).state = .present ∧ (s.station 1).kind = .delegate ∧ some (some (0 : SecIx)) ≠ some (some 5) ∧
    (s.station 9).state = .empty ∧ (3 : Addr) ≠ 4 ∧ (s.station 3).state ≠ .empty ∧ (s.station 3).booth = some (0, 0) := by
  unfold State.ready
  refine ⟨by decide +kernel, by decide +kernel, by decide +kernel, ?_, by decide +kernel⟩
  intro b x hb hs hx
  cases hx
  revert b
  decide +kernel

theorem witness_slotsAgree_hall : hall.slotsAgree := by
  unfold State.slotsAgree State.slotTable State.poolTable
  decide +kernel

theorem witness_SetTimingAdjustsAndWrites :
    hall.ready ∧ (∀ n ∈ some 15, n < 65536) ∧ (∀ n ∈ some 3601, n < 65536) ∧ (∀ n ∈ some 255, n ≤ 255) ∧
    (15 < 16 ∨ 4096 < 15) ∧ (3601 < 1 ∨ 3600 < 3601) ∧ ∃ n ∈ some 256, 255 < n ∧ n < 65536 := by
  refine ⟨hall_ready, ?_⟩
  decide

theorem witness_QueriesReadAndChangeNothingElse :
    hall.ready ∧ (192 : Byte).toNat = (191 : Addr).val + 1 ∧ 192 < (193 : Byte).toNat ∧
    (15 : Byte).toNat = (15 : RoomIx).val ∧ 15 < (16 : Byte).toNat ∧ (8 : Byte).toNat = (7 : BoothIx).val + 1 ∧
    8 < (9 : Byte).toNat ∧ (3 : Byte).toNat = (3 : SpurIx).val ∧ 3 < (4 : Byte).toNat := by
  refine ⟨hall_ready, ?_⟩
  decide

theorem witness_PartAndWallQueriesClearWhatTheyRead :
    hall.ready ∧ ([0] : List Byte).length ≤ 60 ∧ 1 ≤ (1 : Byte).toNat ∧ (23 : Byte).toNat + (1 : Byte).toNat ≤ 24 ∧
    24 < (23 : Byte).toNat + (2 : Byte).toNat := by
  refine ⟨hall_ready, ?_⟩
  decide

/-! ## Witnesses: lines, sections, walls and the map -/

theorem witness_SectionSetIsADirectRecompute :
    hall.ready ∧ pairsOk [(3, false), (15, true)] = true ∧ hall.sections.get 3 ≠ false ∧ hall.sectionsPlaced ∧
    pairsOk [(3, true)] = true ∧ hall.sections.get 3 = true := by
  refine ⟨hall_ready, by decide, by decide +kernel, ⟨by decide +kernel, fun m h => nomatch h⟩, by decide⟩

theorem witness_WallSetWritesTheWall :
    let s : State := { hall with walls := hall.walls.set 0 ⟨false, none, none, some 5, .auto, false, false⟩ }
    hall.ready ∧ s.ready ∧ ((s.wall 0).inUse = false ∧ (s.wall 0).contact = some 5) ∧ (hall.wall 0).contact = none ∧
    (hall.wall 0).secA = none ∧ hall.effOpen 0 = false := by
  unfold State.ready
  decide +kernel

/-- A wall between sections 0 and 1, closed, in a phase of the changeover machine. -/
def partitioned (x : Phase) (shadow : Option RoomMap) : State :=
  { hall with
    walls := hall.walls.set 0 ⟨true, some 0, some 1, none, .auto, false, false⟩
    map := { hall.map with phase := x, shadow := shadow } }

theorem partitioned_placed (x : Phase) (m : Option RoomMap) (h : m = none ∨ m = some hall.map.live) :
    (partitioned x m).sectionsPlaced := by
  have live : ∀ i, (hall.map.live.get i).isSome = hall.sections.get i := by decide +kernel
  refine ⟨live, fun n hn => ?_⟩
  rcases h with rfl | rfl
  · cases hn
  · cases Option.some.inj hn
    exact live

theorem witness_WallSetWritesTheWall_request :
    let s := partitioned .steady none
    let t := after (.wallSet 7 (Order.wallSet 0 none none none none (some true)).payload) s
    s.ready ∧ s.sectionsPlaced ∧ t.effOpen 0 ≠ s.effOpen 0 ∧ s.map.phase = .steady ∧ t.candidate ≠ s.map.live ∧
    s.lane.reports.length ≤ 61 := by
  refine ⟨hall_ready, partitioned_placed _ _ (.inl rfl), ?_⟩
  decide +kernel

/-- R66, R70: the other states of the machine, with a candidate that is and is not the live map. -/
theorem witness_WallSetWritesTheWall_phases :
    (partitioned .pending (some hall.map.live)).sectionsPlaced ∧ (partitioned .fadeIn none).sectionsPlaced ∧
    (partitioned .pending (some hall.map.live)).map.phase = .pending ∧ (partitioned .fadeIn none).map.phase = .fadeIn ∧
    (let s := { partitioned .pending (some hall.map.live) with
      walls := hall.walls.set 0 ⟨true, some 0, some 1, none, .auto, true, false⟩ }
     let t := after (.wallSet 7 (Order.wallSet 0 none none none none (some false)).payload) s
     t.effOpen 0 ≠ s.effOpen 0 ∧ t.candidate = s.map.live ∧ t.reportList =
       [.wall ⟨0, false, none, true, .auto, false⟩, .map .cancelled, .result 0x09 7 .ok (.wall (t.wall 0) false)]) := by
  refine ⟨partitioned_placed _ _ (.inr rfl), partitioned_placed _ _ (.inl rfl), rfl, rfl, ?_⟩
  decide +kernel

theorem witness_LineSetReassignsTheLine :
    let s : State := { hall with lines := hall.lines.set 5 { Line.initial with fn := .wall 2 } }
    hall.ready ∧ s.ready ∧ ((5 : LineIx) ≠ 6 ∧ (s.line 5).fn = .wall 2) ∧
    (∀ m, m ≠ 6 → (hall.line m).fn ≠ .wall 2) ∧ LineFunction.wall 2 ≠ (hall.line 6).fn ∧
    (hall.line 6).fn = .unused := by
  unfold State.ready
  decide +kernel

/-- A line that is active, of each kind of function. -/
def active (f : LineFunction) : State :=
  { hall with lines := hall.lines.set 5 { Line.initial with fn := f, debounced := true, lastRaw := true } }

theorem witness_LineSetReassignsTheLine_active :
    (active .override).ready ∧ ((active .override).line 5).fn = .override ∧
    ((active .override).line 5).debounced = true ∧ LineFunction.unused ≠ .override ∧
    (active (.roomMute 0)).ready ∧ ((active (.roomMute 0)).line 5).fn = .roomMute 0 ∧
    ((active (.roomMute 0)).line 5).debounced = true ∧ LineFunction.roomMute 1 ≠ .roomMute 0 ∧
    (hall.line 6).debounced = false := by
  unfold State.ready
  decide +kernel

/-- R46, R172: a re-assigned line leaves the mute of its section, with cause REASSIGNED. -/
theorem test_line_set_ends_the_mute :
    (said (after (.lineSet 7 (Order.lineSet 5 (some .unused) none none).payload) (active (.roomMute 0)))).head? =
      some (.override (.mute false 0 (some 0) 5 .reassigned [])) := by decide +kernel

/-- A line that has settled active, of each kind of function. -/
def settled (f : LineFunction) : State :=
  { hall with lines := hall.lines.set 5 { Line.initial with
      fn := f, lastRaw := true, changeDue := true, reread := true, rereadDue := true } }

theorem witness_SettledLinesDriveTheirWalls :
    ((settled (.wall 0)).line 5).changeDue = true ∧
    ((settled (.wall 0)).line 5).lastRaw ≠ ((settled (.wall 0)).line 5).debounced ∧
    ((settled (.wall 0)).line 5).fn = .wall 0 ∧
    ((settled (.wall 0)).wall 0).isOpen ≠ ((settled (.wall 0)).line 5).lastRaw ∧ (settled (.wall 0)).hasReportRoom ∧
    ((settled .unused).line 5).fn = .unused ∧ (∀ w, ((settled .override).line 5).fn ≠ .wall w) ∧
    ((settled (.wall 0)).line 5).rereadDue = true ∧ ((settled (.wall 0)).line 5).reread = true := by
  unfold State.hasReportRoom
  decide +kernel

theorem witness_SettledLinesDriveTheirWalls_request :
    let s := { partitioned .steady none with lines := (settled (.wall 0)).lines }
    s.sectionsPlaced ∧ (s.line 5).fn = .wall 0 ∧ (s.line 5).changeDue = true ∧
    (s.line 5).lastRaw ≠ (s.line 5).debounced ∧ (s.line 5).rereadDue = true ∧ (s.line 5).reread = true ∧
    (after (.debouncedChange 5) s).effOpen 0 ≠ s.effOpen 0 ∧ (after (.lineReRead 5) s).effOpen 0 ≠ s.effOpen 0 ∧
    s.lane.reports.length + 2 ≤ s.lane.reportRoom := by
  refine ⟨partitioned_placed .steady none (.inl rfl), ?_⟩
  decide +kernel

/-- An OVERRIDE line that has settled inactive, with a speaker and a console on the air in the hall. -/
def ending : State :=
  let s : State := voicing (onAir hall 1 0 3) 3 .a 1
  { s with lines := s.lines.set 5 { Line.initial with
      fn := .override, debounced := true, lastRaw := false, changeDue := true } }

/-- The same line settled active. -/
def starting : State := ending.updLine 5 fun x => { x with debounced := false, lastRaw := true }

theorem witness_SettledLinesDriveTheirWalls_override :
    (starting.line 5).fn = .override ∧ (starting.line 5).changeDue = true ∧
    (starting.line 5).lastRaw ≠ (starting.line 5).debounced ∧ starting.overrideActive = false ∧
    (starting.station 1).state = .present ∧ (starting.station 1).mic = .onAir ∧ starting.stationRoom 1 = some 0 ∧
    starting.standsOn 1 = none ∧ starting.floorLamp 1 ≠ .muted ∧ (starting.station 3).state = .present ∧
    (starting.station 3).mic ≠ .onAir ∧ starting.standsOn 3 = some (0, .a) ∧ (starting.station 2).mic ≠ .onAir ∧
    starting.standsOn 2 = none ∧ (ending.line 5).fn = .override ∧ (ending.line 5).lastRaw ≠ (ending.line 5).debounced ∧
    ending.floor.priority.get 0 = false := by decide +kernel

theorem witness_SettledLinesDriveTheirWalls_end :
    ∃ t, exec (.debouncedChange 5) ending = .next t ∧ t.overrideActive = false := by
  have h : (ending.line 5).due = true := by decide +kernel
  refine ⟨ending.debouncedChange 5, ?_, ?_⟩
  · exact congrArg Host.Outcome.next (if_pos h)
  · rw [State.overrideActive_debouncedChange ending 5 (by decide +kernel)]
    decide +kernel

theorem witness_SettledLinesDriveTheirWalls_changed :
    let s : State := { starting with override := ⟨true, 200⟩ }
    ∃ t, exec (.debouncedChange 5) s = .next t ∧ s.overrideActive = t.overrideActive := by
  have h : ({ starting with override := ⟨true, 200⟩ } : State).overrideActive = true := by decide +kernel
  have hd : (({ starting with override := ⟨true, 200⟩ } : State).line 5).due = true := by decide +kernel
  refine ⟨_, congrArg Host.Outcome.next (if_pos hd), ?_⟩
  rw [State.overrideActive_debouncedChange _ 5 (by decide +kernel), h]
  decide +kernel

theorem witness_SettledLinesDriveTheirWalls_mute :
    ((settled (.roomMute 0)).line 5).fn = .roomMute 0 ∧
    (after (.debouncedChange 5) (settled (.roomMute 0))).muteStands 0 ≠ (settled (.roomMute 0)).muteStands 0 := by
  decide +kernel

theorem witness_ProfilesAreStoredAndCleared :
    let s : State := { hall with map := { hall.map with
      profiles := hall.map.profiles.set 3 (some ⟨5, ⟨none, none, none, none, none, none, none, none, none, none, none,
        none, none⟩⟩) } }
    hall.ready ∧ s.ready ∧ (5 : SecSet) ≠ 0 ∧
    (⟨none, some 0, none, some 65535, none, some 97, none, none, none, none, none, none, none⟩ :
      RoomFields).carried = true ∧
    (∀ x, x ≠ 4 → hall.map.profiles.get x = none) ∧ ((3 : EntryIx) ≠ 4 ∧ (s.map.profiles.get 3).isSome = true) ∧
    hall.map.profiles.get 3 = none ∧ 31 < (32 : Byte).toNat := by
  unfold State.ready
  decide +kernel

theorem witness_RoomSetWritesTheRecord :
    hall.ready ∧ hall.quiet ∧
    (⟨some .replace, some 9, none, some 3601, some 255, some 97, none, none, none, some 5, some .fixed,
      some (some 1), none⟩ : RoomFields).carried = true ∧ hall.active 0 = true ∧
    hall.seatIn hall.map.live 0 1 = true ∧ hall.seatIn hall.map.live 1 1 = false ∧
    ({ hall with map := { hall.map with live := hall.map.live.set 9 none } } : State).active 9 = false := by
  unfold State.quiet
  refine ⟨hall_ready, ?_⟩
  decide +kernel

/-- A directive that carries no field of a room record. -/
def noFields : RoomFields := ⟨none, none, none, none, none, none, none, none, none, none, none, none, none⟩

/-- Three speakers of room 0, at its max open of 2, of whom station 1 is the chair. -/
def council : State :=
  (room0 (onAir (onAir (onAir hall 0 0 1) 1 1 2) 2 2 3) fun r => { r with maxOpen := 2, chair := some 0 }).updStation 2
    fun x => { x with seconds := 40, silence := 48000 }

theorem witness_RoomSetWritesTheRecord_active :
    council.active 0 = true ∧ council.ready ∧ council.quiet ∧ council.slotsAgree ∧ council.consolesOff ∧
    (council.speakers 0).length ≤ 9 ∧ council.lane.reports.length ≤ 20 := by
  unfold State.ready State.quiet State.slotsAgree State.slotTable State.poolTable State.consolesOff
  decide +kernel

theorem witness_RoomSetWritesTheRecord_reactions :
    ({ noFields with maxOpen := some 1 }.carried = true ∧ max 1 (min 8 1) < (council.room 0).maxOpen ∧
      council.delegates 0 = [1, 2] ∧ council.delegateCount 0 = 2) ∧
    (min 3600 40 ≠ (council.room 0).speakLimit ∧ 40 ≤ (council.station 2).seconds ∧
      (council.station 1).seconds < 40) ∧
    ((council.room 0).silenceTimeout = 0 ∧ 1 * 48000 ≤ (council.station 2).silence ∧
      (council.station 1).silence < 1 * 48000) ∧
    ((council.room 0).chair = some 0 ∧ (council.station 0).mic = .onAir ∧ council.stationRoom 0 = some 0 ∧
      council.seatIn council.map.live 0 1 = true ∧ (council.speakers 0).length = 3 ∧
      (council.setPriority 0 true).floor.priority.get 0 = true) ∧
    council.underChangeover 0 = false := by decide +kernel

/-- R95: the new chair still counts when the former one makes the room exceed its max open. -/
theorem test_room_set_changes_the_chair :
    let t := after (.roomSet 7 (Order.roomSet 0 { noFields with chair := some (some 1) }).payload) council
    (t.station 2).mic = .off ∧ (t.station 0).mic = .onAir ∧ (t.station 1).mic = .onAir := by decide +kernel

/-- Room 0 with a speaker at its max open of 1 and two requests. -/
def asking : State := queued (queued (room0 (onAir hall 0 0 1) fun r => { r with maxOpen := 1 }) 1 5) 2 6

theorem witness_RoomSetWritesTheRecord_requests :
    let c := Instr.roomSet 7 (Order.roomSet 0 { noFields with maxOpen := some 2 }).payload
    (asking.station 1).mic = .queued ∧ asking.stationRoom 1 = some 0 ∧
    (asking.room 0).maxOpen < ((after c asking).room 0).maxOpen ∧ ((after c asking).room 0).mode = .openFloor ∧
    ((after c asking).queue 0).map PoolEntry.addr = [2] := by decide +kernel

theorem witness_RoomSetWritesTheRecord_asking : asking.ready ∧ asking.quiet ∧ asking.slotsAgree ∧
    asking.consolesOff := by
  unfold State.ready State.quiet State.slotsAgree State.slotTable State.poolTable State.consolesOff
  decide +kernel

/-- R62: the RESULT carries the floor language written, although a speaker granted in the same event has changed it. -/
theorem test_room_set_result_is_as_written :
    let s := (room0 asking fun r => { r with languageMode := .followSpeaker }).updStation 1
      fun x => { x with declared := some 9 }
    let t := after (.roomSet 7 (Order.roomSet 0
      { noFields with maxOpen := some 2, language := some 5 }).payload) s
    (t.room 0).language = 9 ∧
    (said t).getLast? = some (.result 0x0E 7 .ok (.room { t.room 0 with language := 5 })) := by decide +kernel

/-- Station 1, on the air as chair of room 0 with the priority flag set, beside 29 reports. -/
def leading : State :=
  { council.setPriority 0 true with
    lane := { council.lane with reports := List.replicate 29 ⟨.lane .trunkLost, false⟩ } }

theorem witness_StationSetWritesItsFields_moved :
    leading.ready ∧ leading.slotsAgree ∧ leading.consolesOff ∧ (leading.station 0).state = .present ∧
    (leading.station 0).kind = .delegate ∧ ((some (some (5 : SecIx))).getD (leading.station 0).sec !=
      (leading.station 0).sec) = true ∧
    ((leading.room 0).chair = some 0 ∧ leading.map.live.get 5 ≠ some 0 ∧ leading.floor.priority.get 0 = true) ∧
    ((leading.station 0).mic = .onAir ∧ leading.standsOn 0 = none ∧ leading.stationRoom 0 = some 0) ∧
    (leading.underChangeover 0 = false ∧ (leading.room 0).mode = .openFloor) ∧ leading.floor.pool = [] ∧
    leading.lane.reports.length ≤ 29 := by
  unfold State.ready State.slotsAgree State.slotTable State.poolTable State.consolesOff
  decide +kernel

theorem witness_StationSetWritesItsFields_queued :
    let s := (queued hall 1 5).updStation 1 fun x => { x with held := true }
    s.ready ∧ s.slotsAgree ∧ (s.station 1).state = .present ∧ (s.station 1).mic = .queued ∧
    ((some none).getD (s.station 1).sec != (s.station 1).sec) = true ∧ (∀ e ∈ s.floor.pool, e.addr = 1) ∧
    s.standsOn 1 = none ∧ ((some (5 : Lang)).getD (s.station 1).listen != (s.station 1).listen) = true := by
  unfold State.ready State.slotsAgree State.slotTable State.poolTable
  decide +kernel

/-- R90, R103: the pass that ends a move grants the head of the old room's queue, and finds its max open taken then. -/
theorem test_station_set_advances_the_queue :
    let t := after (.stationSet 7 [1, 1, 0xFF]) asking
    (t.station 0).sec = none ∧ (t.station 0).talk = none ∧ (t.station 1).mic = .onAir ∧ (t.queue 0).map PoolEntry.addr = [2] := by decide +kernel

theorem witness_EpochBoundarySettlesAPendingMap :
    waiting.trunk.epochDue = true ∧ waiting.map.phase = .pending ∧
    waiting.map.shadow = some (hall.map.live.set 1 (some 0)) ∧ waiting.map.settleCount = 1 + 1 ∧
    ({ waiting with map := { waiting.map with settleCount := 0 } } : State).map.settleCount = 0 ∧
    ({ hall with trunk := { hall.trunk with epochDue := true } } : State).map.phase ≠ .pending := by decide +kernel

theorem witness_FadeOutEndsInTheSwap :
    merging.map.phase = .fadeOut ∧ merging.map.shadow = some (hall.map.live.set 1 (some 0)) ∧
    (∀ r, merging.map.affected.get r = true → merging.mix.applied.get r = 0) ∧
    sectionSet merging.map.live 0 ≠ sectionSet (hall.map.live.set 1 (some 0)) 0 ∧
    activeIn (hall.map.live.set 1 (some 0)) 0 = true ∧ activeIn (hall.map.live.set 1 (some 0)) 1 = false ∧
    sectionSet merging.map.live 2 = sectionSet (hall.map.live.set 1 (some 0)) 2 := by decide +kernel

/-- Room 1 about to merge into room 0, of max open 1, with a speaker in each; the speaker of room 1, granted last, is its
chair. -/
def unseating : State :=
  let s := onAir (onAir (room0 merging fun r => { r with maxOpen := 1 }) 1 1 3) 2 2 4
  (s.updRoom 1 fun r => { r with chair := some 2 }).updStation 2 fun x => { x with sec := some 1 }

/-- That state on the new map. -/
def unseated : State :=
  { unseating with
    map := { unseating.map with
      live := hall.map.live.set 1 (some 0), rooms := unseating.builtRooms (hall.map.live.set 1 (some 0)) } }

theorem witness_FadeOutEndsInTheSwap_roles :
    unseating.map.phase = .fadeOut ∧ unseating.map.shadow = some unseated.map.live ∧
    (∀ r, unseating.map.affected.get r = true → unseating.mix.applied.get r = 0) ∧ unseating.slotsAgree ∧
    unseated.speakers 0 = [1, 2] ∧ unseating.isChair 1 2 = true ∧ unseated.isChair 0 2 = false ∧
    (unseated.room 0).maxOpen = 1 ∧ unseating.lane.reports.length ≤ 8 ∧
    (∀ q, q ≠ 0 → activeIn unseated.map.live q = true →
      sectionSet unseated.map.live q = sectionSet unseating.map.live q) ∧
    ∀ a, (unseating.station a).mic ≠ .off ∨ (unseating.station a).held = true → unseated.stationRoom a ≠ none := by
  unfold State.slotsAgree State.slotTable State.poolTable
  decide +kernel

/-- R104 step 4, R95 step 2: the former chair, granted last, is closed with LIMIT and is in no queue. -/
theorem test_swap_unseats :
    let t := unseated.dropFormerChairs unseating 0
    (t.station 2).mic = .off ∧ (t.station 1).mic = .onAir ∧ t.floor.pool = [] ∧
    said t = [.floor ⟨.closed, some 2, some 0, .limit, none, none⟩] := by decide +kernel

/-- A changeover in FADE_IN that affected room 0, with the recompute flag clear or set. -/
def fading (flag : Bool) : State :=
  { hall with
    walls := hall.walls.set 0 ⟨true, some 0, some 1, none, .auto, true, true⟩
    map := { hall.map with
      phase := .fadeIn, affected := (Tab.fill 16 false).set 0 true, met := (Tab.fill 16 false).set 0 true,
      flag := flag } }

theorem witness_FadeInEndsTheChangeover :
    (fading true).map.phase = .fadeIn ∧
    (∀ r, (fading true).map.affected.get r = true → (fading true).active r = true →
      (fading true).map.met.get r = true) ∧ (fading true).hasReportRoom ∧ (fading true).map.flag = true ∧
    (fading true).candidate ≠ (fading true).map.live ∧ (fading false).map.flag = false ∧
    ({ (fading true) with walls := hall.walls } : State).candidate = hall.map.live := by
  unfold State.hasReportRoom
  decide +kernel

/-- A queue entry and a held press wait for the end of the changeover of room 0, which is at its max open or below it. -/
def held (limit : Nat) : State :=
  (room0 (queued (onAir (fading false) 0 0 7) 1 4294967295) fun r => { r with maxOpen := limit }).updStation 2
    fun x => { x with held := true }

theorem witness_FadeInEndsTheChangeover_held :
    (held 1).slotsAgree ∧ (∀ a, ((held 1).station a).held = true → ((held 1).station a).state = .present →
      ((held 1).station a).kind = .delegate ∧ ((held 1).spur ((held 1).station a).spur).link.up = true) ∧
    ((held 1).station 2).held = true ∧ ((held 1).station 2).state = .present ∧
    (held 1).map.affected.get 0 = true ∧ (held 1).active 0 = true ∧ grantsByItself (held 1) 0 := by
  unfold State.slotsAgree State.slotTable State.poolTable grantsByItself
  decide +kernel

/-- R106: below its max open the room grants the entry, and the held press, then a fresh one, finds the room full. -/
theorem test_fade_in_end_takes_the_held_press :
    let t := after .fadeInEnd (held 2)
    (t.station 1).mic = .onAir ∧ (t.station 2).mic = .queued := by decide +kernel

/-! ## Witnesses: floor control -/

theorem witness_offDelegatePress : offDelegatePress hall 0 1 2 0 := by
  unfold offDelegatePress State.addressed State.quiet
  decide +kernel

theorem witness_PressBelowTheLimitIsGranted :
    offDelegatePress hall 0 1 2 0 ∧ (hall.room 0).mode = .openFloor ∧ hall.delegateCount 0 < (hall.room 0).maxOpen ∧
    (hall.station 1).talk = none ∧ (hall.spur 0).talkSlots.get 0 = none ∧
    (∀ j, j < (0 : SlotIx) → (hall.spur 0).talkSlots.get j ≠ none) ∧ hall.hasReportRoom := by
  refine ⟨witness_offDelegatePress, ?_⟩
  unfold State.hasReportRoom
  decide +kernel

theorem witness_PressBelowTheLimitIsGranted_chair :
    let s := room0 hall fun r => { r with chair := some 0, mode := .request, maxOpen := 1 }
    offChairPress s 0 0 1 0 ∧ (s.station 0).talk = none ∧ (s.spur 0).talkSlots.get 0 = none ∧
    (∀ j, j < (0 : SlotIx) → (s.spur 0).talkSlots.get j ≠ none) ∧ s.hasReportRoom := by
  unfold offChairPress State.addressed State.quiet State.hasReportRoom
  decide +kernel

/-- Room 0 at its max open of 1, in a mode of its own. -/
def atLimit (m : FloorMode) : State := room0 (onAir hall 0 0 7) fun r => { r with maxOpen := 1, mode := m }

/-- The same with a full request pool. -/
def poolFull : State :=
  { atLimit .openFloor with
    floor := { (atLimit .openFloor).floor with pool := List.replicate 64 ⟨100, 0, false⟩ } }

theorem witness_PressAtTheLimitIsQueued :
    offDelegatePress (atLimit .openFloor) 0 1 2 0 ∧ ((atLimit .openFloor).room 0).mode = .openFloor ∧
    ((atLimit .openFloor).room 0).maxOpen ≤ (atLimit .openFloor).delegateCount 0 ∧
    (atLimit .openFloor).floor.pool.length < 64 ∧ (atLimit .openFloor).hasReportRoom ∧
    (fullSpur hall).hasFreeTalk 0 = false ∧
    ((room0 hall fun r => { r with mode := .request, autoAdvance := false }).room 0).autoAdvance = false ∧
    offDelegatePress poolFull 0 1 2 0 ∧ 64 ≤ poolFull.floor.pool.length := by
  unfold offDelegatePress State.addressed State.quiet State.hasReportRoom
  decide +kernel

theorem witness_PressAtTheLimitIsQueued_auto :
    let s := room0 hall fun r => { r with mode := .request }
    offDelegatePress s 0 1 2 0 ∧ (s.room 0).mode = .request ∧ (s.room 0).autoAdvance = true ∧
    s.delegateCount 0 < (s.room 0).maxOpen ∧ s.queue 0 = [] ∧ (s.station 1).talk = none ∧ s.hasFreeTalk 0 = true ∧
    s.floor.pool.length < 64 ∧ s.lane.reports.length + 2 ≤ s.lane.reportRoom := by
  unfold offDelegatePress State.addressed State.quiet
  decide +kernel

theorem witness_PressAtTheLimitIsQueued_otherwise :
    let s := hall.updStation 1 fun x => { x with sec := none }
    let u := merging.updStation 1 fun x => { x with held := true }
    (s.addressed 0 1 2 ∧ s.quiet ∧ (s.station 1).kind = .delegate ∧ (s.station 1).key = true ∧
      s.stationRoom 1 = none) ∧
    (merging.addressed 0 1 2 ∧ merging.quiet ∧ merging.stationRoom 1 = some 0 ∧ merging.underChangeover 0 = true ∧
      (merging.station 1).mic = .off ∧ (merging.station 1).held = false ∧ (u.station 1).held = true) ∧
    ((onAir merging 1 0 3).station 1).mic ≠ .off ∧ ((queued hall 1 3).station 1).mic ≠ .off ∧
    (queued hall 1 3).addressed 0 1 2 ∧ (queued hall 1 3).stationRoom 1 = some 0 := by
  unfold State.addressed State.quiet
  decide +kernel

/-- In a REPLACE room at its limit; and with the speaker on spur 1 while spur 0 is full of consoles standing in booths. -/
theorem witness_ReplacePressTakesTheOldestPlace :
    offDelegatePress (atLimit .replace) 0 1 2 0 ∧ (atLimit .replace).slotsAgree ∧
    ((atLimit .replace).station 1).talk = none ∧ ((atLimit .replace).room 0).mode = .replace ∧
    ((atLimit .replace).room 0).maxOpen = (atLimit .replace).delegateCount 0 ∧
    ((atLimit .replace).delegates 0).head? = some 0 ∧ (atLimit .replace).hasFreeTalk 0 = true := by
  unfold offDelegatePress State.addressed State.quiet State.slotsAgree State.slotTable State.poolTable
  decide +kernel

theorem witness_ReplacePressTakesTheOldestPlace_below :
    let s := room0 (fullSpur hall) fun r => { r with mode := .replace }
    offDelegatePress s 0 1 2 0 ∧ (s.room 0).mode = .replace ∧ s.delegateCount 0 < (s.room 0).maxOpen ∧
    s.hasFreeTalk 0 = false := by
  unfold offDelegatePress State.addressed State.quiet
  decide +kernel

/-- Sixteen delegates of room 1 hold every slot of spur 0, and the speaker of room 0 holds one of spur 1. -/
def crossed : State :=
  let s : State := atLimit .replace
  { s with
    stations := .ofFn fun a =>
      if a = 0 then { s.station 0 with spur := 1 }
      else if h : 20 ≤ a.val ∧ a.val < 36 then
        { delegate a.val with sec := some 1, mic := .onAir, talk := some ⟨a.val - 20, by omega⟩, stamp := some 3 }
      else s.station a
    spurs := (s.spurs.set 1 { s.spur 1 with talkSlots := (s.spur 1).talkSlots.set 0 (some 0) }).set 0
      { s.spur 0 with talkSlots := .ofFn fun k => some ⟨20 + k.val, by omega⟩ } }

theorem witness_ReplacePressTakesTheOldestPlace_no_slot :
    offDelegatePress crossed 0 1 2 0 ∧ crossed.slotsAgree ∧ (crossed.station 1).talk = none ∧
    (crossed.room 0).mode = .replace ∧ (crossed.room 0).maxOpen = crossed.delegateCount 0 ∧
    (crossed.delegates 0).head? = some 0 ∧ crossed.hasFreeTalk 0 = false ∧ (crossed.station 0).spur ≠ 0 := by
  unfold offDelegatePress State.addressed State.quiet State.slotsAgree State.slotTable State.poolTable
  decide +kernel

/-- The same with the sixteen in room 0, of which station 2 is the chair. -/
def crowded : State :=
  { room0 crossed (fun r => { r with chair := some 1 }) with
    stations := .ofFn fun a =>
      if 20 ≤ a.val then { crossed.station a with sec := some 0, stamp := some (BitVec.ofNat 32 a.val) }
      else crossed.station a }

theorem witness_PressBelowTheLimitIsGranted_reclaim :
    offChairPress crowded 0 1 2 0 ∧ (crowded.station 1).talk = none ∧ crowded.hasFreeTalk 0 = false ∧
    ((crowded.delegates 0).filter fun d => (crowded.station d).spur == 0).getLast? = some 35 ∧
    crowded.slotsAgree ∧ (crowded.station 35).talk ≠ none ∧
    crowded.lane.reports.length + 2 ≤ crowded.lane.reportRoom := by
  unfold offChairPress State.addressed State.quiet State.slotsAgree State.slotTable State.poolTable
  decide +kernel

/-- R90: an entry without a free slot is passed over, and the next one granted. -/
theorem witness_FadeInEndsTheChangeover_order :
    let s := (queued (queued (room0 crossed fun r => { r with mode := .openFloor, maxOpen := 4 }) 1 5) 2 6).updStation 2
      fun x => { x with spur := 1 }
    let u := s.advance [] [0]
    s.queue 0 = [] ++ ⟨1, 5, false⟩ :: [⟨2, 6, false⟩] ∧ (u.station 1).mic = .queued ∧ (u.station 2).mic = .onAir := by
  decide +kernel

theorem witness_PressBelowTheLimitIsGranted_no_slot :
    let s := room0 crossed fun r => { r with chair := some 1 }
    offChairPress s 0 1 2 0 ∧ (s.station 1).talk = none ∧ s.hasFreeTalk 0 = false ∧
    (∀ d ∈ s.delegates 0, (s.station d).spur ≠ 0) ∧ s.delegates 0 = [0] := by
  unfold offChairPress State.addressed State.quiet
  decide +kernel

/-- Station 1 on the air, station 2 queued, station 3 with a held press. -/
def mixed : State := (queued (onAir hall 0 0 7) 1 5).updStation 2 fun x => { x with held := true }

theorem witness_ReleaseAndCancelAct :
    mixed.addressed 0 0 1 ∧ mixed.addressed 0 1 2 ∧ mixed.addressed 0 2 3 ∧ mixed.quiet ∧ mixed.slotsAgree ∧
    (mixed.station 0).kind = .delegate ∧ mixed.stationRoom 0 = some 0 ∧ (mixed.station 0).mic = .onAir ∧
    (mixed.station 1).mic = .queued ∧ (mixed.station 2).mic = .off ∧ (mixed.station 2).held = true ∧
    (hall.station 1).mic = .off ∧ (hall.station 1).held = false ∧ mixed.hasReportRoom := by
  unfold State.addressed State.quiet State.slotsAgree State.slotTable State.poolTable State.hasReportRoom
  decide +kernel

/-- Station 2 without a room (R83), a delegate with a priority key. -/
def unplaced : State := hall.updStation 1 fun x => { x with sec := none }

theorem witness_ReleaseAndCancelAct_unplaced :
    unplaced.addressed 0 1 2 ∧ (unplaced.station 1).kind = .delegate ∧ unplaced.stationRoom 1 = none := by
  unfold State.addressed
  decide +kernel

/-- A delegate on the air for some seconds and silent for some frames, in a room with limits. -/
def timed (seconds silence : Nat) : State :=
  (room0 (onAir hall 1 0 3) fun r => { r with speakLimit := 31, silenceTimeout := 1 }).updStation 1
    fun x => { x with seconds := seconds, silence := silence }

theorem witness_SpeakingTimeAndSilenceAct :
    ((timed 1 0).station 1).kind = .delegate ∧ ((timed 1 0).station 1).mic = .onAir ∧ (timed 1 0).stationRoom 1 = some 0 ∧ (timed 1 0).isChair 0 1 = false ∧
    30 < ((timed 1 0).room 0).speakLimit ∧ ((timed 1 0).room 0).speakLimit ≤ ((timed 1 0).station 1).seconds + 30 ∧
    ((timed 1 0).station 1).seconds < ((timed 1 0).room 0).speakLimit ∧ ((timed 1 0).station 1).warning = false ∧
    (timed 31 48000).slotsAgree ∧ (timed 31 48000).quiet ∧
    ((timed 31 48000).room 0).speakLimit ≤ ((timed 31 48000).station 1).seconds ∧
    ((timed 31 48000).room 0).silenceTimeout * 48000 ≤ ((timed 31 48000).station 1).silence := by
  unfold State.quiet State.slotsAgree State.slotTable State.poolTable
  decide +kernel

/-- Station 1 the chair, station 2 queued. -/
def chaired : State := queued (room0 hall fun r => { r with mode := .request, chair := some 0 }) 1 3

theorem witness_NextGrantsTheHead :
    chaired.addressed 0 0 1 ∧ chaired.quiet ∧ (chaired.station 0).kind = .delegate ∧
    chaired.stationRoom 0 = some 0 ∧ chaired.underChangeover 0 = false ∧ chaired.isChair 0 0 = true ∧
    chaired.head 0 = some 1 ∧ chaired.delegateCount 0 < (chaired.room 0).maxOpen ∧ chaired.hasFreeTalk 0 = true ∧
    hall.isChair 0 0 = false ∧ (room0 hall fun r => { r with chair := some 0 }).head 0 = none ∧
    (fullSpur chaired).hasFreeTalk 0 = false ∧
    (room0 (onAir chaired 2 0 4) fun r => { r with maxOpen := 1 }).delegateCount 0 = 1 := by
  unfold State.addressed State.quiet
  decide +kernel

/-- The chair of a room of a priority mode, with a delegate on the air. -/
def presiding (m : PriorityMode) : State :=
  onAir (room0 hall fun r => { r with chair := some 0, priorityMode := m }) 1 0 4

theorem witness_PriorityActsByItsMode :
    (presiding .mute).addressed 0 0 1 ∧ (presiding .mute).quiet ∧ ((presiding .mute).station 0).key = true ∧
    (presiding .mute).stationRoom 0 = some 0 ∧ (presiding .mute).isChair 0 0 = true ∧
    (presiding .mute).underChangeover 0 = false ∧ ((presiding .mute).room 0).priorityMode = .mute ∧
    (presiding .mute).floor.priority.get 0 = false ∧ ((presiding .mute).station 0).mic = .off ∧
    ((presiding .mute).station 0).talk = none ∧ (presiding .mute).hasFreeTalk 0 = true ∧
    ((onAir (presiding .mute) 0 1 5).station 0).mic = .onAir ∧ (1 : Addr) ∈ (presiding .mute).delegates 0 ∧
    (presiding .clear).slotsAgree ∧ ((presiding .clear).room 0).priorityMode = .clear ∧
    ((presiding .mute).setPriority 0 true).floor.priority.get 0 = true := by
  unfold State.addressed State.quiet State.slotsAgree State.slotTable State.poolTable
  decide +kernel

theorem witness_PriorityActsByItsMode_no_chair :
    hall.addressed 0 1 2 ∧ (hall.station 1).kind = .delegate ∧ (hall.station 1).key = true ∧
    hall.stationRoom 1 = some 0 ∧ hall.isChair 0 1 = false ∧ hall.underChangeover 0 = false := by
  unfold State.addressed
  decide +kernel

theorem witness_PriorityActsByItsMode_repeated :
    let s := (presiding .clear).setPriority 0 true
    s.addressed 0 0 1 ∧ s.quiet ∧ (s.station 0).key = true ∧ s.stationRoom 0 = some 0 ∧ s.isChair 0 0 = true ∧
    s.underChangeover 0 = false ∧ s.floor.priority.get 0 = true ∧ (s.station 0).mic = .off ∧
    (s.station 0).talk = none ∧ s.hasFreeTalk 0 = true ∧ s.hasReportRoom ∧
    ((onAir s 0 1 5).station 0).mic = .onAir ∧ (presiding .clear).floor.priority.get 0 = false := by
  unfold State.addressed State.quiet State.hasReportRoom
  decide +kernel

/-- R94: the chair that releases its priority key is offered its floor lamp with the delegate it had muted. -/
theorem test_priority_release_lamps :
    let t := after (.priorityRelease 0 0 1) ((onAir (presiding .mute) 0 1 5).setPriority 0 true)
    (t.spur 0).queue = [.to 1 (.lamp .onAir), .to 0 (.lamp .onAir)] := by decide +kernel

/-- R93, log 61: with the flag set, a press under CLEAR closes nobody. -/
theorem test_priority_press_repeated :
    ((after (.priorityPress 0 0 1) ((presiding .clear).setPriority 0 true)).station 1).mic = .onAir := by decide +kernel

theorem witness_FloorDirectivesAct :
    mixed.ready ∧ mixed.slotsAgree ∧ mixed.head 0 = some 1 ∧ mixed.active 0 = true ∧
    mixed.underChangeover 0 = false ∧ mixed.delegateCount 0 < (mixed.room 0).maxOpen ∧
    mixed.hasFreeTalk (mixed.station 1).spur = true ∧ (mixed.station 1).mic = .queued ∧
    mixed.stationRoom 1 = some 0 ∧ (mixed.station 0).mic = .onAir ∧ mixed.stationRoom 0 = some 0 := by
  unfold State.ready
  refine ⟨by decide +kernel, witness_ReleaseAndCancelAct.2.2.2.2.1, ?_⟩
  decide +kernel

theorem witness_FloorDirectivesAct_refused :
    mixed.ready ∧ 5 < (6 : Byte).toNat ∧ 15 < (16 : Byte).toNat ∧ 192 < (193 : Byte).toNat ∧
    ({ hall with map := { hall.map with live := hall.map.live.set 9 none } } : State).active 9 = false ∧
    hall.head 0 = none ∧ (hall.station 9).state ≠ .present ∧ unplaced.stationRoom 1 = none ∧
    (hall.station 1).mic ≠ .queued ∧ (hall.station 1).mic ≠ .onAir ∧ asking.head 0 = some 1 ∧
    asking.active 0 = true ∧ (asking.room 0).maxOpen ≤ asking.delegateCount 0 ∧ (asking.station 1).mic = .queued ∧
    (asking.station 1).state = .present ∧ asking.stationRoom 1 = some 0 := by
  unfold State.ready
  decide +kernel

theorem witness_FloorEventsKeepTheSettings :
    hall.addressed 0 1 2 ∧ Instr.press 0 1 2 ∈ stationEvents 0 1 2 ∧ ∃ t, exec (.press 0 1 2) hall = .next t := by
  unfold State.addressed
  refine ⟨by decide +kernel, by decide, _, rfl⟩

/-! ## Witnesses: interpretation, listening, mix, override, lane -/

theorem witness_ConsolesComeAndGo :
    consolePress hall 0 3 4 0 0 .b 1 0 ∧ (hall.booth 0).standing .b = none ∧ (hall.spur 0).talkSlots.get 0 = none ∧
    (hall.channel 1).code ≠ 0 ∧ (hall.channel 1).code ≠ (hall.room 0).language := by
  unfold consolePress State.addressed
  decide +kernel

theorem witness_ConsolesComeAndGo_refused :
    consolePress (voicing hall 4 .b 0) 0 3 4 0 0 .b 1 0 ∧ ((voicing hall 4 .b 0).booth 0).interlock = .lockout ∧
    ((voicing hall 4 .b 0).booth 0).standing .b ≠ none := by
  unfold consolePress State.addressed
  decide +kernel

theorem witness_ConsolesComeAndGo_full :
    consolePress (fullSpur hall) 0 3 4 0 0 .b 1 0 ∧ (fullSpur hall).hasFreeTalk 0 = false := by
  unfold consolePress State.addressed
  decide +kernel

theorem witness_ConsolesComeAndGo_off :
    (voicing hall 4 .b 0).addressed 0 4 5 ∧ (voicing hall 4 .b 0).standsOn 4 = some (0, .b) ∧
    ((voicing hall 4 .b 0).station 4).booth = some (0, 1) := by
  unfold State.addressed
  decide +kernel

theorem witness_ConsolesComeAndGo_slots : (voicing hall 4 .b 0).slotsAgree := by
  unfold State.slotsAgree State.slotTable State.poolTable
  decide +kernel

theorem witness_ConsolesComeAndGo_consoles : (voicing hall 4 .b 0).consolesOff := by
  unfold State.consolesOff
  decide +kernel

theorem witness_StationSetWritesItsFields_console :
    let s := voicing hall 4 .b 0
    s.ready ∧ s.slotsAgree ∧ s.consolesOff ∧ (s.station 4).state = .present ∧ (s.station 4).kind = .console ∧
    ((some none).getD (s.station 4).booth != (s.station 4).booth) = true ∧ s.standsOn 4 = some (0, .b) ∧
    (s.station 4).booth = some (0, 1) ∧ s.floor.pool = [] ∧
    (∀ (c : BoothIx) (x : Output), (s.booth c).standing x = some 4 → c = 0 ∧ x = .b) ∧
    ((some (some (5 : SecIx))).getD (s.station 4).sec != (s.station 4).sec) = true := by
  refine ⟨by unfold State.ready; decide +kernel, witness_ConsolesComeAndGo_slots, witness_ConsolesComeAndGo_consoles,
    by decide +kernel, by decide +kernel, by decide +kernel, by decide +kernel, by decide +kernel, by decide +kernel,
    fun c x => ?_, by decide +kernel⟩
  cases x <;> revert c <;> decide +kernel

/-- R63, R95, R103: a chair that moves away on the air is closed, and its room loses priority and chair; R123: a console
on the air that is bound elsewhere leaves its output. -/
theorem test_station_set_reacts :
    said (after (.stationSet 7 [1, 1, 5]) (council.setPriority 0 true)) =
      [.floor ⟨.closed, some 0, some 0, .moved, none, none⟩, .floor ⟨.priorityOff, none, some 0, .chair, none, none⟩,
        .floor ⟨.chairChanged, none, some 0, .moved, none, some (some 0, none)⟩, .result 0x06 7 .ok .nothing] ∧
    (let t := after (.stationSet 7 [5, 4, 0xFF, 0xFF]) (voicing hall 4 .b 0)
     (said t).head? = some (.booth (.consoleOff 0 1 4 .b .moved)) ∧ (t.booth 0).onB = none ∧
       (t.station 4).talk = none) := by decide +kernel

theorem witness_ConsolesComeAndGo_nowhere :
    let s := hall.updStation 3 fun x => { x with booth := none }
    let u := hall.updBooth 0 fun b => { b with room := none }
    let v := hall.updBooth 0 fun b => { b with outB := none }
    (s.addressed 0 3 4 ∧ (s.station 3).kind = .console ∧ s.standsOn 3 = none ∧ (s.station 3).booth = none) ∧
    (u.addressed 0 3 4 ∧ u.standsOn 3 = none ∧ (u.station 3).booth = some (0, 0) ∧ (u.booth 0).room = none) ∧
    (v.addressed 0 3 4 ∧ v.standsOn 3 = none ∧ (v.booth 0).room ≠ none ∧ (v.booth 0).output .b = none) := by
  unfold State.addressed
  decide +kernel

/-- Console 2 of booth 1 on output B, under TAKEOVER. -/
def taken : State := (voicing hall 4 .b 0).updBooth 0 fun b => { b with interlock := .takeover }

theorem witness_ConsolesComeAndGo_takeover :
    consolePress taken 0 3 4 0 0 .b 1 0 ∧ (taken.booth 0).interlock = .takeover ∧
    (taken.booth 0).standing .b = some 4 ∧ (taken.station 4).kind = .console ∧ taken.hasFreeTalk 0 = true ∧
    (taken.station 4).booth = some (0, 1) ∧ taken.lane.reports.length + 2 ≤ taken.lane.reportRoom ∧
    (taken.channel 1).code ≠ 0 ∧ (taken.channel 1).code ≠ ((after (.consoleOn 0 3 4 1) taken).room 0).language := by
  unfold consolePress State.addressed
  decide +kernel

theorem witness_ConsolesComeAndGo_takeover_slots : taken.slotsAgree ∧ taken.consolesOff := by
  unfold State.slotsAgree State.slotTable State.poolTable State.consolesOff
  decide +kernel

theorem witness_ConsolesComeAndGo_takeover_full :
    let s := fullSpur (taken.updStation 4 fun x => { x with spur := 1 })
    consolePress s 0 3 4 0 0 .b 1 0 ∧ s.hasFreeTalk 0 = false ∧ (s.booth 0).interlock = .takeover ∧
    (s.booth 0).standing .b = some 4 ∧ (s.station 4).spur ≠ 0 := by
  unfold consolePress State.addressed
  decide +kernel

/-- Console 1 of booth 1 on output A beside it. -/
def relayed : State := voicing taken 3 .a 1

theorem witness_ConsolesComeAndGo_switch :
    let s := voicing hall 3 .a 0
    consoleSwitch s 0 3 4 0 0 .b .a 0 ∧ (s.booth 0).output .b = some 1 ∧ s.owner 1 = some 0 ∧
    (s.booth 0).standing .b = none ∧ (s.booth 0).output .a = some 0 ∧ s.owner 0 = some 0 := by
  unfold consoleSwitch State.addressed
  decide +kernel

theorem witness_ConsolesComeAndGo_switch_refused :
    let u := (voicing hall 3 .a 0).updBooth 0 fun b => { b with outB := none }
    let v := relayed.updBooth 0 fun b => { b with interlock := .lockout }
    consoleSwitch u 0 3 4 0 0 .b .a 0 ∧ (u.booth 0).output .b = none ∧
    consoleSwitch v 0 3 4 0 0 .b .a 0 ∧ (v.booth 0).interlock = .lockout ∧ (v.booth 0).standing .b ≠ none := by
  unfold consoleSwitch State.addressed
  decide +kernel

theorem witness_ConsolesComeAndGo_switch_takeover :
    consoleSwitch relayed 0 3 4 0 0 .b .a 0 ∧ (relayed.booth 0).interlock = .takeover ∧
    (relayed.booth 0).standing .b = some 4 ∧ (relayed.station 4).kind = .console ∧ (4 : Addr) ≠ 3 ∧
    (relayed.station 4).booth = some (0, 1) := by
  unfold consoleSwitch State.addressed
  decide +kernel

theorem witness_ConsolesComeAndGo_switch_slots : relayed.slotsAgree ∧ relayed.consolesOff := by
  unfold State.slotsAgree State.slotTable State.poolTable State.consolesOff
  decide +kernel

theorem witness_ConsolesComeAndGo_switch_free :
    (voicing hall 3 .a 0).slotsAgree ∧ (voicing hall 3 .a 0).consolesOff := by
  unfold State.slotsAgree State.slotTable State.poolTable State.consolesOff
  decide +kernel

/-- Booth 1 may take channel 3; an anchor without output A is unsound for booth 2, and booth 1 has channel 1. -/
theorem witness_BoothsAndChannelsAreWritten :
    hall.ready ∧ (∀ c ∈ some ([1, 2, 3, 63] : List Lang), comprehensionOk c = true) ∧
    ((hall.booth 1).anchor = none ∧ (hall.booth 1).outA = none) ∧ ((hall.booth 0).outA = some 0) ∧
    ((0 : ChanIx) ≠ 2) ∧ (hall.channel 0).code = 20 ∧ (44 : Lang) ≠ (hall.channel 0).code := by
  refine ⟨hall_ready, ?_⟩
  decide +kernel

/-- A console on the air at output A of a booth whose output is renumbered, removed, or left without a room. -/
theorem witness_BoothsAndChannelsAreWritten_consoles :
    let s := voicing hall 3 .a 0
    s.ready ∧ (s.slotsAgree ∧ s.consolesOff) ∧ (s.booth 0).standing .a = some 3 ∧ (s.station 3).kind = .console ∧
    (s.station 3).booth = some (0, 0) ∧ s.lane.reports.length ≤ 61 ∧ (s.booth 0).anchor ≠ none ∧
    (s.booth 0).outA ≠ none ∧ (s.booth 0).outA ≠ some 1 ∧ (s.booth 0).comprehension ≠ [] := by
  refine ⟨hall_ready, witness_ConsolesComeAndGo_switch_free, ?_⟩
  decide +kernel

/-- R125: the console stays on its renumbered output, the channel given up is DARK, and the other is SERVED. -/
theorem test_booth_set_renumbers :
    let t := after (.boothSet 7 (Order.boothSet 0 none none (some (some 1)) (some none) none).payload) (voicing hall 3 .a 0)
    (t.booth 0).onA = some 3 ∧ (t.channel 0).state = .dark ∧ (t.channel 1).state = .served ∧
    (t.booth 0).room = some 0 := by decide +kernel

theorem witness_SelectRetunesTheSeat :
    hall.addressed 0 1 2 ∧ (hall.station 1).kind = .delegate ∧ hall.stationRoom 1 = some 0 ∧
    ((hall.channel 0).code = 20 ∧ (hall.channel 0).room = some 0 ∧ (hall.channel 0).state ≠ .dark ∧
      (hall.channel 0).parked = false) ∧
    (hall.updStation 1 fun x => { x with sec := none }).stationRoom 1 = none := by
  unfold State.addressed
  decide +kernel

theorem witness_SelectRetunesTheSeat_voice : hall.oneVoice ∧
    ∀ l, (hall.channel l).code = 33 → (hall.channel l).room = some 0 → (hall.channel l).state ≠ .dark →
      (hall.channel l).parked = true := by
  unfold State.oneVoice
  refine ⟨by decide +kernel, by decide +kernel⟩

/-- The listen slots of spur 0 held by sixteen floors, each with a delegate of its room; or the first by a feed, with the
console that it is for. -/
def listening (feed : Bool) : State :=
  { hall with
    stations := .ofFn fun a =>
      if h : 20 ≤ a.val ∧ a.val < 36 then
        if feed && a.val = 20 then { console 20 2 with resolved := some ⟨.feed 0, false⟩ }
        else { delegate a.val with sec := some ⟨a.val - 20, by omega⟩ }
      else hall.station a
    spurs := hall.spurs.set 0 { hall.spur 0 with
      listenSlots := .ofFn fun k => if feed && k = 0 then some (.feed 0, 1) else some (.floor k, 1) } }

/-- With every slot held, a selection leaves the channel unserved and the seat on its floor, or in silence when its floor
has no slot either. -/
theorem witness_SelectRetunesTheSeat_unserved :
    let t := after (.select 0 1 2 20) (listening false)
    (t.spur 0).unserved = [.channel 0] ∧ ((t.spur 0).listenSlots.get 0).map Prod.fst = some (.floor 0) ∧
    (t.station 1).resolved = some ⟨.channel 0, false⟩ ∧
    ∀ j, ((t.spur 0).listenSlots.get j).map Prod.fst ≠ some (.channel 0) := by decide +kernel

theorem witness_SelectRetunesTheSeat_silence :
    let t := after (.select 0 1 2 20) (listening true)
    (t.spur 0).unserved = [.floor 0, .channel 0] ∧
    ∀ j, ((t.spur 0).listenSlots.get j).map Prod.fst ≠ some (.floor 0) ∧
      ((t.spur 0).listenSlots.get j).map Prod.fst ≠ some (.channel 0) := by decide +kernel

/-- A first selection on an empty spur is placed, and retunes the seat. -/
theorem witness_SelectRetunesTheSeat_placed :
    let t := after (.select 0 1 2 20) hall
    (t.spur 0).listenSlots.get 1 = some (.channel 0, 1) ∧
    (t.station 1).listenSlot ≠ (hall.station 1).listenSlot := by decide +kernel

theorem witness_FrameComputationRampsAndMixes :
    hall.active 0 = true ∧ hall.forced 0 = false ∧ (hall.room 0).master ≠ 0 ∧ hall.overrideActive = false ∧
    (∀ i, hall.map.live.get i = some 0 → hall.muteStands i = false) ∧
    merging.forced 0 = true ∧
    ({ hall with lines := hall.lines.set 2 { Line.initial with fn := .roomMute 0, debounced := true } } :
      State).muteStands 0 = true := by decide +kernel

/-- R147: two speakers contribute to their room, and the chair alone while its priority flag is set. -/
theorem witness_FrameComputationRampsAndMixes_sources :
    let s := onAir (onAir (room0 hall fun r => { r with chair := some 0 }) 0 0 7) 1 1 8
    ((List.finRange 192).filter (contributes s 0)) = [0, 1] ∧
    ((List.finRange 192).filter (contributes (s.setPriority 0 true) 0)) = [0] ∧
    ([0, 0, 6, 10, 12, 14, 16, 17, 18, 19] : List Nat)[2]? = some 6 := by decide +kernel

/-- R151, worked by hand: 1,000 at factor 65,536 from each of two talk slots and an inject input. -/
theorem test_room_sum :
    let s := onAir (onAir (room0 hall fun r => { r with inject := some 0, injectCode := 200 }) 0 0 7) 1 1 8
    roomSum { s.updSpur 0 (fun p => { p with talkIn := .fill 16 1000 }) with
      trunk := { s.trunk with inject := .fill 4 1000 } } 0 = 196608000 := by decide +kernel

/-- Console 1 of booth 1 heard on channel 1, with a talk-slot sample and a trim, and inject input 0 into room 0. -/
def mixing (x : Sample) (trim : Byte) : State :=
  let s : State := room0 ((voicing hall 3 .a 0).updStation 3 fun y => { y with trim := trim }) fun r =>
    { r with master := 255, inject := some 0, injectCode := trim }
  { s with
    channels := s.channels.set 0 ⟨20, some 0, .served, false⟩
    spurs := s.spurs.set 0 { s.spur 0 with talkIn := .fill 16 x }
    trunk := { s.trunk with inject := .fill 4 x }
    mix := { s.mix with applied := .fill 16 255 } }

theorem consoleSample_mixing :
    consoleSample (mixing 1000 200) 0 1000 ∧ consoleSample (mixing 8388607 255) 0 198925160 := by
  refine ⟨⟨0, .a, 3, 0, ?_⟩, 0, .a, 3, 0, ?_⟩ <;>
  · unfold nearest
    decide +kernel

theorem witness_FrameComputationRampsAndMixes_outputs :
    hall.dueStep = none ∧ (hall.channel 2).state = .dark ∧
    ((hall.channel 0).parked = false ∧ (hall.channel 0).state = .idle ∧ (hall.channel 0).room = some 0) ∧
    (hall.booth 1).input = .nothing ∧ (hall.booth 0).input = .floor ∧ (hall.booth 0).room = some 0 ∧
    ((hall.updBooth 0 fun b => { b with input := .relay 1 }).booth 0).input = .relay 1 ∧
    (mixing 1000 200).dueStep = none ∧ ((mixing 1000 200).channel 0).state = .served ∧
    ((mixing 1000 200).channel 0).parked = false ∧ (mixing 8388607 255).overrideActive = false := by decide +kernel

theorem witness_FrameComputationRampsAndMixes_clips :
    (mixing 8388607 255).dueStep = none ∧ (mixing 8388607 255).active 0 = true ∧
    (after .frameComputation (mixing 8388607 255)).mix.applied.get 0 = 255 ∧
    (∃ x, floorValue (mixing 8388607 255) 0 255 x ∧ clips x) ∧ clips 198925160 ∧
    (after .frameComputation hall).mix.applied.get 0 = 1 ∧
    ∀ x, floorValue hall 0 1 x → ¬clips x := by
  refine ⟨by decide +kernel, by decide +kernel, by decide +kernel, ⟨4717257513, ?_, ?_⟩, ?_, by decide +kernel, ?_⟩
  · unfold floorValue nearest
    decide +kernel
  · unfold clips
    omega
  · unfold clips
    omega
  · intro x h
    have h0 : roomSum hall 0 = 0 := by decide +kernel
    rw [floorValue, h0] at h
    unfold nearest at h
    unfold clips
    omega

theorem witness_OverrideShutsOutEveryMicrophone :
    let s : State := { onAir hall 1 0 3 with override := ⟨true, 200⟩ }
    let t : State := { hall with override := ⟨true, 200⟩ }
    s.dueStep = none ∧ t.dueStep = none ∧ s.overrideActive = true ∧ t.overrideActive = true ∧ s.trunk.inject.get 0 = t.trunk.inject.get 0 ∧
    s.override.code = t.override.code ∧ s.map.live = t.map.live := by decide +kernel

/-- R154, R158: with the loudest inject sample the clamp acts at code 255 and does not at code 200; an IDLE id. -/
theorem witness_OverrideShutsOutEveryMicrophone_clips :
    let s := fun c => ({ hall with
      override := ⟨true, c⟩
      trunk := { hall.trunk with inject := hall.trunk.inject.set 0 8388607 }
      map := { hall.map with live := hall.map.live.set 9 none } } : State)
    (s 255).dueStep = none ∧ (s 255).overrideActive = true ∧ (s 255).active 0 = true ∧ (s 255).active 9 = false ∧
    8388607 < ((s 255).trunk.inject.get 0 * gain 255 + 32768) / 65536 ∧
    ((s 200).trunk.inject.get 0 * gain 200 + 32768) / 65536 = 8388607 := by decide +kernel

theorem witness_EnvelopesFollowTheTalkSlots :
    (onAir hall 1 0 3).dueStep = none ∧
    ((onAir hall 1 0 3).station 1).talk = some 0 ∧ (hall.station 1).talk = none ∧
    ((onAir hall 1 0 3).station 1).mic = .onAir ∧ (onAir hall 1 0 3).stationRoom 1 = some 0 ∧
    (onAir hall 1 0 3).isChair 0 1 = false ∧
    (room0 (onAir hall 1 0 3) fun r => { r with chair := some 1 }).isChair 0 1 = true := by decide +kernel

theorem witness_AnnounceSetsTheDirectiveSource :
    hall.ready ∧ hall.override.source = false ∧ hall.override.source ≠ true ∧ 1 < (2 : Byte).toNat := by
  refine ⟨hall_ready, ?_⟩
  decide +kernel

/-- The same hall while the directive source alone stands. -/
def announcing : State := { starting with override := ⟨true, 200⟩ }

theorem witness_AnnounceSetsTheDirectiveSource_lamps :
    starting.ready ∧ starting.override.source = false ∧ starting.overrideActive = false ∧ announcing.ready ∧
    announcing.override.source = true ∧ announcing.overrideActive = true ∧ announcing.overrideLines = [] ∧
    (active .override).overrideLines = [5] := by
  unfold State.ready
  decide +kernel

/-- The hall with an assembly buffer in some state. -/
def assembling (a : Assembly) : State := hall.setAssembly a

theorem witness_LaneBytesAssembleDirectives :
    hall.trunk.link.up = true ∧ hall.gapDue = false ∧ hall.lane.assembly.state = .waitStart ∧
    (assembling ⟨.kind, 0, 0, 0, [], 0, 8, 1⟩).gapDue = false ∧
    (assembling ⟨.payload, 1, 2, 3, [9], 2, 0, 5⟩).lane.assembly.expected = 1 + 1 ∧
    (let a : Assembly := ⟨.check, 0x16, 7, 0, [], 0, 0, 4⟩
     a.payload.foldl (· + ·) (a.kind + a.tag + a.length) + (0xE3 : Byte) = 0 ∧
       a.payload.foldl (· + ·) (a.kind + a.tag + a.length) + (0xE2 : Byte) ≠ 0) ∧
    hall.lane.directives.length < 8 ∧ 8 ≤ (List.replicate 8 (⟨1, 2, []⟩ : Directive)).length ∧
    (assembling ⟨.tag, 1, 0, 0, [], 0, 9, 2⟩).lane.assembly.state ≠ .waitStart ∧
    9 ≤ (assembling ⟨.tag, 1, 0, 0, [], 0, 9, 2⟩).lane.assembly.gap := by decide +kernel

theorem witness_WaitingDirectivesAreExecutedInOrder :
    let s := fun n => ({ hall with lane := { hall.lane with
      directives := [⟨0x17, 7, [1]⟩, ⟨0x16, 8, []⟩], overrun := some ⟨2, 9, 10⟩,
      reports := List.replicate n ⟨.lane .trunkLost, false⟩ } } : State)
    (s 62).lane.directives = ⟨0x17, 7, [1]⟩ :: [⟨0x16, 8, []⟩] ∧ (s 62).lane.reports.length ≤ 62 ∧
    (0x17 : Byte) ≠ 0x02 ∧ (s 62).lane.overrun = some ⟨2, 9, 10⟩ ∧ 62 < (s 63).lane.reports.length := by
  decide +kernel

/-- A byte that TRUNK_FRAME_RECEIVE has handed on is taken from those that wait. -/
theorem test_lane_byte_is_taken :
    (after (.laneByte 0xA5) { hall with handed := [.laneByte 0xA5, .laneByte 1] }).handed = [.laneByte 1] := by
  decide +kernel

/-- A payload refused; an order carried out; an order that finds no binding, whose code is NOT_FOUND. -/
theorem witness_WaitingDirectivesAreExecutedInOrder_examined :
    examine 0x17 [4] = .refused .badField ∧ examine 0x17 [1] = .order (.spurQuery 1) ∧
    examine 0x05 [0, 0, 0, 0, 0, 9] = .order (.unbindSeat 9) ∧ ((Order.unbindSeat 9).run hall).code = .notFound ∧
    knownKind 0x18 = false := by decide +kernel

theorem witness_WaitingDirectivesAreExecutedInOrder_refused_restart :
    let s : State := { hall with lane := { hall.lane with directives := [⟨0x02, 7, [1]⟩] } }
    s.lane.directives = ⟨0x02, 7, [1]⟩ :: [] ∧ s.lane.reports.length ≤ 62 ∧ ([1] : List Byte) ≠ [] := by decide +kernel

theorem witness_WarmRestartClearsTheLiveState : hall.ready := hall_ready

theorem witness_WarmRestartClearsTheLiveState_waiting :
    let s : State := { hall with lane := { hall.lane with
      directives := [⟨0x02, 7, []⟩, ⟨0x16, 8, []⟩], overrun := some ⟨2, 9, 10⟩,
      reports := List.replicate 62 ⟨.lane .trunkLost, false⟩, sent := 3 } }
    s.lane.directives = ⟨0x02, 7, []⟩ :: [⟨0x16, 8, []⟩] ∧ s.lane.reports.length ≤ 62 ∧
    ([1] : List Byte).length ≤ 60 := by decide +kernel

/-- Sections 0 and 1 joined by a wall since the last map; station 8 is bound to a seat in section 1 and is the chair of
rooms 0 and 1, and station 1, which no binding names, that of room 2; with or without a profile for the joined room. -/
def rejoined (profile : Bool) : State :=
  { hall with
    walls := hall.walls.set 0 ⟨true, some 0, some 1, none, .auto, true, false⟩
    bindings := [⟨8, 7, some 1, none, none⟩]
    map := { hall.map with
      rooms := ((hall.map.rooms.set 0 { Room.initial with chair := some 7 }).set 1
        { Room.initial with chair := some 7 }).set 2 { Room.initial with master := 9, chair := some 0 }
      profiles := if profile then hall.map.profiles.set 3 (some ⟨3, { noFields with maxOpen := some 6 }⟩)
        else hall.map.profiles } }

theorem witness_WarmRestartClearsTheLiveState_records :
    let s := rejoined true
    let m := s.candidate
    let ours := fun (s : State) e => (s.map.profiles.get e).map Profile.secs = some (sectionSet m 0)
    s.ready ∧ (rejoined false).ready ∧ sectionSet s.map.live 2 = sectionSet m 2 ∧ activeIn m 1 = false ∧
    (sectionSet s.map.live 0 ≠ sectionSet m 0 ∧ m.get 0 = some 0 ∧ ∀ j, j < 0 → m.get j ≠ some 0) ∧
    (s.map.profiles.get 3 = some ⟨3, { noFields with maxOpen := some 6 }⟩ ∧ ours s 3 ∧ ∀ f, f < 3 → ¬ours s f) ∧
    (rejoined false).candidate = m ∧ ∀ e, ¬ours (rejoined false) e := by
  unfold State.ready
  decide +kernel

/-- R59, R75: the joined room takes its profile and keeps the chair whose binding seats it there; a chair that no binding
seats is dropped, and so is that of the id that became IDLE. -/
theorem test_warm_restart_keeps_room_records :
    let t := after (.warmRestart 7 []) (rejoined true)
    t.room 0 = { Room.initial with maxOpen := 6, chair := some 7 } ∧ t.room 1 = Room.initial ∧
    t.room 2 = { Room.initial with master := 9 } := by decide +kernel

end Sys2Proof.Tests
end

