-- ==== Sys2Proof/Proofs/GainTables.lean ====
section
/-! The two fixed tables of the mix engine (R146, R162). Both say that a whole number is a root of a fraction, rounded to
the nearest whole number, so the rounding is said once and each table is checked against it entry by entry. -/

namespace Sys2Proof.Machine

/-- The positive whole number g is the n-th root of (p / 2ⁿ) / q rounded to the nearest whole number, halves upward:
2g − 1 ≤ root of p / q < 2g + 1, raised to the n-th power and multiplied by q. Reducible, so that it is decided as the
comparisons it abbreviates. -/
abbrev IsRoundedRoot (n p q g : Nat) : Prop :=
  1 ≤ g ∧ (2 * g - 1) ^ n * q ≤ p ∧ p < (2 * g + 1) ^ n * q

/-- Each entry of the factor table after the first is 65,536 × 10^((c − 200)/40), a 40th root, rounded (R146). -/
theorem gain_isRoundedRoot :
    ∀ c < 256, 1 ≤ c → IsRoundedRoot 40 ((2 * 65536) ^ 40 * 10 ^ c) (10 ^ 200) (gain c) := by
  decide +kernel

/-- Each entry of the level table is 8,388,608 × 10^(−d/20), a 20th root, rounded (R162). -/
theorem silenceLevel_isRoundedRoot :
    ∀ d < 97, IsRoundedRoot 20 ((2 * 8388608) ^ 20) (10 ^ d) (silenceLevel d) := by
  decide +kernel

/-- Settles O55: code 0 is the table's first entry, and every other entry of both tables is a rounded root. -/
theorem gainAndLevelTablesAreRounded : Obligations.GainAndLevelTablesAreRounded := by
  refine ⟨rfl, fun c one_le le_255 => ?factor, fun d le_96 => ?level⟩
  case factor => exact gain_isRoundedRoot c (Nat.lt_succ_of_le le_255) one_le
  case level => exact silenceLevel_isRoundedRoot d (Nat.lt_succ_of_le le_96)

end Sys2Proof.Machine
end

section
/-! Emergency announcement (Chapter 9). Three layers, each a use of the one before: what lamps offered one after another
write; what follows a change of the override sources (R168 to R170), whichever command made it; and ANNOUNCE (R167) as a
directive that is executed at once (R182). -/

namespace Sys2Proof.Machine

/-! ## Lamps offered one after another (R25) -/

/-- From s to t only lamps and the commands that wait for them change: stations and spurs alone are written, and their
core is kept. -/
def State.lampsOnly (s t : State) : Prop := s.relit t ∧ t.core = s.core

/-- Each station a of a list is offered the lamp l a, in order. -/
def State.offerLamps (s : State) (l : Addr → Lamp) (as : List Addr) : State :=
  as.foldl (fun t a => t.offerLamp a (l a)) s

theorem State.lampsOnly_refl (s : State) : s.lampsOnly s := ⟨s.relit_refl, rfl⟩

theorem State.lampsOnly_trans {s t u : State} (h : s.lampsOnly t) (g : t.lampsOnly u) : s.lampsOnly u :=
  ⟨State.relit_trans h.1 g.1, g.2.trans h.2⟩

theorem State.lampsOnly_offerLamps (s : State) (l : Addr → Lamp) (as : List Addr) : s.lampsOnly (s.offerLamps l as) :=
  ⟨State.relit_foldl _ as s fun t a => t.relit_offer a _,
    foldl_same State.core _ as s fun t a => t.core_offerLamp a _⟩

/-- A lamp offered to a PRESENT station is written in its record, and no other record changes. -/
theorem State.station_offerLamp (s : State) (a i : Addr) (l : Lamp) :
    (s.offerLamp a l).station i =
      if i = a ∧ (s.station i).state = .present then { s.station i with lamp := l } else s.station i := by
  unfold State.offerLamp State.offer
  by_cases present : (s.station a).state = .present
  · rw [if_pos present, State.station_updSpur, State.station_updStation]
    by_cases same : i = a
    · subst same; rw [if_pos rfl, if_pos ⟨rfl, present⟩]; rfl
    · rw [if_neg same, if_neg (same ·.1)]
  · rw [if_neg present, if_neg]
    rintro ⟨rfl, h⟩
    exact present h

/-- Of lamps offered one after another, each PRESENT station of the list takes its own. -/
theorem State.station_offerLamps (s : State) (l : Addr → Lamp) (as : List Addr) (i : Addr) :
    (s.offerLamps l as).station i =
      { s.station i with lamp := if i ∈ as ∧ (s.station i).state = .present then l i else (s.station i).lamp } := by
  induction as generalizing s with
  | nil => simp [State.offerLamps]
  | cons a as ih =>
    have step : s.offerLamps l (a :: as) = (s.offerLamp a (l a)).offerLamps l as := rfl
    rw [step, ih, State.station_offerLamp]
    by_cases same : i = a
    · subst same
      by_cases present : (s.station i).state = .present <;> simp [present]
    · simp [same]

theorem Spur.listenSlots_offer (a : Addr) (b : CommandBody) (p : Spur) : (p.offer a b).listenSlots = p.listenSlots := by
  unfold Spur.offer
  repeat' split
  all_goals rfl

theorem State.listenSlots_offer (s : State) (a : Addr) (b : CommandBody) (q : SpurIx) :
    ((s.offer a b).spur q).listenSlots = (s.spur q).listenSlots := by
  unfold State.offer
  split
  · rw [State.spur_updSpur]
    split
    · rw [Spur.listenSlots_offer]; rfl
    · rfl
  · rfl

theorem State.listenSlots_offerLamps (s : State) (l : Addr → Lamp) (as : List Addr) (q : SpurIx) :
    ((s.offerLamps l as).spur q).listenSlots = (s.spur q).listenSlots :=
  foldl_same (fun t => (t.spur q).listenSlots) _ as s fun t a => t.listenSlots_offer a _ q

/-- Steps each of which offers lamps that the start alone decides offer all of these one after another. -/
theorem State.foldl_eq_offerLamps {α : Type} {f : State → α → State} {l : Addr → Lamp} {as : α → List Addr} {s : State}
    (step : ∀ t x, s.lampsOnly t → f t x = t.offerLamps l (as x)) (xs : List α) {t : State} (ht : s.lampsOnly t) :
    xs.foldl f t = t.offerLamps l (xs.flatMap as) := by
  induction xs generalizing t with
  | nil => rfl
  | cons x xs ih =>
    rw [List.foldl_cons, step t x ht, ih (State.lampsOnly_trans ht (t.lampsOnly_offerLamps l _)), List.flatMap_cons,
      State.offerLamps, State.offerLamps, State.offerLamps, List.foldl_append]

/-! ## What lamps do not change -/

theorem State.floorLamp_of_lampsOnly {s t : State} (h : s.lampsOnly t) (a : Addr) : t.floorLamp a = s.floorLamp a := by
  rw [← State.core_floorLamp, h.2, State.core_floorLamp]

theorem State.speakers_of_lampsOnly {s t : State} (h : s.lampsOnly t) (r : RoomIx) : t.speakers r = s.speakers r := by
  rw [← State.core_speakers, h.2, State.core_speakers]

theorem State.consoleLamp_of_lampsOnly {s t : State} (h : s.lampsOnly t) (a : Addr) :
    t.consoleLamp a = s.consoleLamp a := by
  rw [h.1]; rfl

/-! ## The lamps of a start or an end of override (R169, R170) -/

/-- The stations among `as` whose lamp is not what it was. -/
def changedLamps (before now : Addr → Lamp) (as : List Addr) : List Addr := as.filter fun a => before a ≠ now a

/-- The speakers of the ACTIVE rooms, in the order of R169. -/
def State.allSpeakers (s : State) : List Addr :=
  (List.finRange 16).flatMap fun r => if s.active r then s.speakers r else []

/-- The consoles on the air, in the order of R170. -/
def State.allConsoles (s : State) : List Addr :=
  (List.finRange 8).flatMap fun b => outputs.flatMap fun o => ((s.booth b).standing o).toList

theorem State.active_of_stationRoom {s : State} {a : Addr} {r : RoomIx} (h : s.stationRoom a = some r) :
    s.active r = true := by
  obtain ⟨i, -, hi⟩ := Option.bind_eq_some_iff.mp h
  cases e : lowestFin 16 fun i => s.map.live.get i == some r with
  | none => simpa [hi] using lowestFin_none.mp e i
  | some j => rw [State.active, activeIn, e]; rfl

theorem State.mem_speakers {s : State} {r : RoomIx} {a : Addr} :
    a ∈ s.speakers r ↔ (s.station a).mic = .onAir ∧ s.stationRoom a = some r := by
  simp [State.speakers, State.byGrant, mem_sortBy, mem_finsWhere]

/-- The speakers are the ON_AIR stations that have a room, which is ACTIVE then (R56, R80). -/
theorem State.mem_allSpeakers {s : State} {a : Addr} :
    a ∈ s.allSpeakers ↔ (s.station a).mic = .onAir ∧ ∃ r, s.stationRoom a = some r := by
  simp only [State.allSpeakers, List.mem_flatMap, List.mem_finRange, true_and]
  constructor
  · rintro ⟨r, h⟩
    split at h
    · obtain ⟨mic, room⟩ := State.mem_speakers.mp h
      exact ⟨mic, r, room⟩
    · cases h
  · rintro ⟨mic, r, room⟩
    exact ⟨r, by rw [if_pos (State.active_of_stationRoom room)]; exact State.mem_speakers.mpr ⟨mic, room⟩⟩

/-- The consoles on the air are the stations that stand on an output (R116). -/
theorem State.mem_allConsoles {s : State} {a : Addr} : a ∈ s.allConsoles ↔ s.standsOn a ≠ none := by
  have stands : s.standsOn a = none ↔ ∀ b, (s.booth b).onA ≠ some a ∧ (s.booth b).onB ≠ some a := by
    simp [State.standsOn, lowestFin_none]
  simp only [ne_eq, stands, State.allConsoles, outputs, Booth.standing, List.mem_flatMap, List.mem_finRange, true_and,
    List.mem_cons, List.not_mem_nil, or_false, exists_eq_or_imp, exists_eq_left, Option.mem_toList]
  push Not
  exact exists_congr fun b => by tauto

/-- A lamp is offered where it is not what it was. -/
theorem State.offerLamps_changed_singleton (t : State) (before now : Addr → Lamp) (a : Addr) :
    (if before a = now a then t else t.offerLamp a (now a)) = t.offerLamps now (changedLamps before now [a]) := by
  by_cases same : before a = now a <;> simp [changedLamps, State.offerLamps, same]

theorem changedLamps_flatMap {α : Type} (before now : Addr → Lamp) (xs : List α) (as : α → List Addr) :
    changedLamps before now (xs.flatMap as) = xs.flatMap fun x => changedLamps before now (as x) :=
  List.filter_flatMap

/-- The speakers whose floor lamp is not what it was are offered it (R169). -/
theorem State.overrideFloorLamps_eq (s before : State) :
    s.overrideFloorLamps before =
      s.offerLamps s.floorLamp (changedLamps before.floorLamp s.floorLamp s.allSpeakers) := by
  have one : ∀ (t : State) (a : Addr), s.lampsOnly t →
      t.offerIfChanged before a = t.offerLamps s.floorLamp (changedLamps before.floorLamp s.floorLamp [a]) := by
    intro t a ht
    rw [State.offerIfChanged, State.offerFloorLamp, State.floorLamp_of_lampsOnly ht]
    exact t.offerLamps_changed_singleton before.floorLamp s.floorLamp a
  rw [State.allSpeakers, changedLamps_flatMap]
  refine State.foldl_eq_offerLamps (fun t r ht => ?_) _ s.lampsOnly_refl
  have active : t.active r = s.active r := by rw [ht.1]; rfl
  dsimp only
  rw [active, State.speakers_of_lampsOnly ht]
  split
  · rw [State.foldl_eq_offerLamps one _ ht, ← changedLamps_flatMap, List.flatMap_singleton']
  · rfl

/-- The consoles on the air whose lamp is not what it was are offered it (R170). -/
theorem State.overrideConsoleLamps_eq (s before : State) :
    s.overrideConsoleLamps before =
      s.offerLamps s.consoleLamp (changedLamps before.consoleLamp s.consoleLamp s.allConsoles) := by
  rw [State.allConsoles, changedLamps_flatMap]
  refine State.foldl_eq_offerLamps (fun t b ht => ?_) _ s.lampsOnly_refl
  rw [changedLamps_flatMap]
  refine State.foldl_eq_offerLamps (fun u o hu => ?_) _ ht
  have booth : u.booth b = s.booth b := by rw [hu.1]; rfl
  rw [booth]
  cases (s.booth b).standing o with
  | none => rfl
  | some c =>
    dsimp only
    rw [State.consoleLamp_of_lampsOnly hu]
    exact u.offerLamps_changed_singleton before.consoleLamp s.consoleLamp c

/-- A start or an end of override offers lamps, and does nothing else. -/
theorem State.overrideLamps_eq (s before : State) :
    s.overrideLamps before =
      (s.offerLamps s.floorLamp (changedLamps before.floorLamp s.floorLamp s.allSpeakers)).offerLamps s.consoleLamp
        (changedLamps before.consoleLamp s.consoleLamp s.allConsoles) := by
  have ht := s.lampsOnly_offerLamps s.floorLamp (changedLamps before.floorLamp s.floorLamp s.allSpeakers)
  rw [State.overrideLamps, State.overrideConsoleLamps_eq, State.overrideFloorLamps_eq]
  generalize s.offerLamps _ _ = t at ht
  have consoles : t.allConsoles = s.allConsoles := by rw [ht.1]; rfl
  rw [consoles, funext (State.consoleLamp_of_lampsOnly ht)]

/-- The lamp of a station after a start or an end of override: a console on the air takes its lamp where that is not
what it was before, and else so does a speaker; the lamp of a record that is not PRESENT stays (R25). -/
def State.lampAfter (s before : State) (a : Addr) : Lamp :=
  if (s.station a).state ≠ .present then (s.station a).lamp
  else if s.standsOn a ≠ none ∧ before.consoleLamp a ≠ s.consoleLamp a then s.consoleLamp a
  else if (s.station a).mic = .onAir ∧ (s.stationRoom a).isSome ∧ before.floorLamp a ≠ s.floorLamp a then s.floorLamp a
  else (s.station a).lamp

theorem State.station_overrideLamps (s before : State) (a : Addr) :
    (s.overrideLamps before).station a = { s.station a with lamp := s.lampAfter before a } := by
  rw [State.overrideLamps_eq, State.station_offerLamps, State.station_offerLamps, State.lampAfter]
  simp only [changedLamps, List.mem_filter, State.mem_allSpeakers, State.mem_allConsoles, decide_eq_true_eq,
    ← Option.isSome_iff_exists, and_assoc]
  by_cases present : (s.station a).state = .present <;> simp [present]

/-- A start or an end of override leaves the links, windows and slot tables of the spurs as they were. -/
theorem State.spur_overrideLamps (s before : State) (q : SpurIx) :
    (s.spur q).sameInterface ((s.overrideLamps before).spur q) ∧
      ((s.overrideLamps before).spur q).talkSlots = (s.spur q).talkSlots ∧
      ((s.overrideLamps before).spur q).listenSlots = (s.spur q).listenSlots := by
  rw [State.overrideLamps_eq]
  generalize changedLamps before.floorLamp _ _ = speakers
  generalize changedLamps before.consoleLamp _ _ = consoles
  have lamps := State.lampsOnly_trans (s.lampsOnly_offerLamps s.floorLamp speakers)
    (State.lampsOnly_offerLamps _ s.consoleLamp consoles)
  obtain ⟨interface, talk⟩ := Spur.sameInterface_of_core (spur_core_of_core lamps.2 q)
  refine ⟨interface, talk, ?_⟩
  rw [State.listenSlots_offerLamps, State.listenSlots_offerLamps]

/-! ## The lamp of a speaker and of a console (R81, R116) -/

/-- While override is active the lamp of an ON_AIR station is MUTED. -/
theorem State.floorLamp_of_override {s : State} {a : Addr} (mic : (s.station a).mic = .onAir)
    (active : s.overrideActive = true) : s.floorLamp a = .muted := by
  simp [State.floorLamp, mic, active]

/-- Without override, a speaker that the priority flag does not mute has the lamp of its warning period. -/
theorem State.floorLamp_of_unmuted {s : State} {a : Addr} {r : RoomIx} (mic : (s.station a).mic = .onAir)
    (inactive : s.overrideActive = false) (room : s.stationRoom a = some r)
    (unmuted : s.isChair r a = true ∨ s.floor.priority.get r = false) :
    s.floorLamp a = if s.isChair r a = false ∧ (s.station a).warning = true then .warning else .onAir := by
  simp only [State.floorLamp, mic, inactive, room]
  cases chair : s.isChair r a with
  | true => simp
  | false =>
    have flag : s.floor.priority.get r = false := unmuted.resolve_left (by simp [chair])
    simp [flag]

/-- The lamp of a console on the air. -/
theorem State.consoleLamp_of_stands {s : State} {a : Addr} {b : BoothIx} {o : Output}
    (stands : s.standsOn a = some (b, o)) :
    s.consoleLamp a =
      if s.overrideActive = true then .muted
      else if ∃ l, (s.booth b).output o = some l ∧ (s.channel l).state = .served ∧ (s.channel l).parked = false
        then .onAir
      else .standby := by
  simp only [State.consoleLamp, stands]
  cases (s.booth b).output o <;> simp [State.voiced]

/-- A console's lamp is MUTED exactly while override is active. -/
theorem State.consoleLamp_eq_muted {s : State} {a : Addr} (stands : s.standsOn a ≠ none) :
    s.consoleLamp a = .muted ↔ s.overrideActive = true := by
  obtain ⟨⟨b, o⟩, h⟩ := Option.ne_none_iff_exists'.mp stands
  rw [State.consoleLamp_of_stands h]
  split
  · simp [*]
  · split <;> simp [*]

/-- A PRESENT speaker that is no console on the air takes its floor lamp where that is not what it was. -/
theorem State.lampAfter_speaker {s before : State} {a : Addr} {r : RoomIx} (present : (s.station a).state = .present)
    (mic : (s.station a).mic = .onAir) (room : s.stationRoom a = some r) (off : s.standsOn a = none)
    (changed : before.floorLamp a ≠ s.floorLamp a) : s.lampAfter before a = s.floorLamp a := by
  simp [State.lampAfter, present, mic, room, off, changed]

/-- A PRESENT console on the air takes its console lamp where that is not what it was. -/
theorem State.lampAfter_console {s before : State} {a : Addr} (present : (s.station a).state = .present)
    (stands : s.standsOn a ≠ none) (changed : before.consoleLamp a ≠ s.consoleLamp a) :
    s.lampAfter before a = s.consoleLamp a := by
  simp [State.lampAfter, present, stands, changed]

/-- A station that is neither a speaker nor a console on the air keeps its lamp. -/
theorem State.lampAfter_other {s before : State} {a : Addr} (mic : (s.station a).mic ≠ .onAir)
    (off : s.standsOn a = none) : s.lampAfter before a = (s.station a).lamp := by
  simp [State.lampAfter, mic, off]

/-! ## A change of the override sources (R168) -/

/-- u is s with the override sources changed: the lines or the directive source, the walls that lines drive, and the
reports. No lamp reads anything else of these. -/
def State.resourced (s u : State) : Prop :=
  ∃ lines walls override lane, u = { s with lines := lines, walls := walls, override := override, lane := lane }

theorem State.overrideActive_of_relit {s t : State} (h : s.relit t) : t.overrideActive = s.overrideActive := by
  rw [h]; rfl

/-- Where override is as it was and no record is written, the lamps follow. -/
theorem overrideLampsFollow_of_same {s t : State} (stations : t.stations = s.stations) (spurs : t.spurs = s.spurs)
    (active : s.overrideActive = t.overrideActive) : overrideLampsFollow s t := by
  have station : ∀ a, t.station a = s.station a := fun a => by rw [State.station, stations, State.station]
  have spur : ∀ q, t.spur q = s.spur q := fun q => by rw [State.spur, spurs, State.spur]
  refine ⟨fun a => ?_, fun q => ?_, fun _ => ⟨stations, spurs⟩, fun a _ _ => station a, fun ne => absurd active ne⟩
  · rw [station]
  · rw [spur]
    exact ⟨⟨rfl, rfl, rfl, rfl, rfl, rfl, rfl, rfl, rfl, rfl, rfl, rfl⟩, rfl, rfl⟩

/-- The lamps of a start or an end of override follow it (R169, R170). -/
theorem overrideLampsFollow_overrideLamps {s u : State} (h : s.resourced u) (ne : s.overrideActive ≠ u.overrideActive) :
    overrideLampsFollow s (u.overrideLamps s) := by
  have active : (u.overrideLamps s).overrideActive = u.overrideActive :=
    State.overrideActive_of_relit (u.relit_overrideLamps s)
  have reads : u.station = s.station ∧ u.stationRoom = s.stationRoom ∧ u.standsOn = s.standsOn ∧ u.spur = s.spur ∧
      u.isChair = s.isChair ∧ u.floor = s.floor ∧ u.booth = s.booth ∧ u.channel = s.channel := by
    obtain ⟨_, _, _, _, rfl⟩ := h
    exact ⟨rfl, rfl, rfl, rfl, rfl, rfl, rfl, rfl⟩
  obtain ⟨station, stationRoom, standsOn, spur, isChair, floor, booth, channel⟩ := reads
  have written : ∀ a, (u.overrideLamps s).station a = { s.station a with lamp := u.lampAfter s a } := fun a => by
    rw [State.station_overrideLamps, station]
  have lamp : ∀ a, ((u.overrideLamps s).station a).lamp = u.lampAfter s a := fun a => by rw [written]
  refine ⟨fun a => ?lampOnly, fun q => ?spurs, fun e => absurd (e.trans active) ne, fun a mic off => ?other,
    fun _ a present => ⟨fun r mic room off => ?speaker, fun b o _ stands => ?console⟩⟩
  case lampOnly => rw [lamp, written]
  case spurs => rw [← spur]; exact u.spur_overrideLamps s q
  case other =>
    rw [← station] at mic
    rw [← standsOn] at off
    rw [written, State.lampAfter_other mic off, station]
  case speaker =>
    have taken : s.floorLamp a ≠ u.floorLamp a → u.lampAfter s a = u.floorLamp a :=
      State.lampAfter_speaker (by rwa [station]) (by rwa [station]) (by rwa [stationRoom]) (by rwa [standsOn])
    rw [active, lamp]
    refine ⟨fun inactive unmuted => ?_, fun ended unmuted => ?_⟩
    · have now : u.floorLamp a = .muted :=
        State.floorLamp_of_override (by rwa [station]) (by simpa [inactive] using ne.symm)
      rw [taken (by rwa [now]), now]
    · have was : s.floorLamp a = .muted := State.floorLamp_of_override mic (by simpa [ended] using ne)
      have now := State.floorLamp_of_unmuted (s := u) (by rwa [station]) ended (by rwa [stationRoom])
        (by rwa [isChair, floor])
      rw [taken (by rw [was, now]; split <;> decide), now, isChair, station]
  case console =>
    have onAir : u.standsOn a = some (b, o) := by rwa [standsOn]
    have taken : u.lampAfter s a = u.consoleLamp a := by
      refine State.lampAfter_console (by rwa [station]) (by simp [onAir]) fun same => ne ?_
      rw [Bool.eq_iff_iff, ← State.consoleLamp_eq_muted (a := a) (by simp [stands]), same,
        State.consoleLamp_eq_muted (by simp [onAir])]
    rw [active, lamp, taken, State.consoleLamp_of_stands onAir, booth, channel]
    refine ⟨fun inactive => ?_, fun ended => ?_⟩
    · exact if_pos (by simpa [inactive] using ne.symm)
    · exact if_neg (by simp [ended])

/-- A change of the sources that is a transition places its report, and at a start or an end offers the lamps (R168). -/
theorem State.overrideTransition_eq {s before : State} {k : OverrideKind}
    (kind : overrideKind before.overrideActive s.overrideActive = some k) (cause : Reason) (line : Option LineIx) :
    s.overrideTransition before cause line =
      if before.overrideActive = s.overrideActive then s.place (s.overrideReport k cause line)
      else (s.place (s.overrideReport k cause line)).overrideLamps before := by
  rw [State.overrideTransition, kind]
  cases was : before.overrideActive <;> cases now : s.overrideActive <;>
    · rw [was, now] at kind
      cases kind <;> rfl

/-- Where override stands on neither side of a change, nothing follows. -/
theorem State.overrideTransition_none {s before : State} (was : before.overrideActive = false)
    (now : s.overrideActive = false) (cause : Reason) (line : Option LineIx) :
    s.overrideTransition before cause line = s := by
  rw [State.overrideTransition, was, now]; rfl

/-- A transition places its report, and nothing else changes in the lane. -/
theorem State.overrideTransition_lane {s before : State} {k : OverrideKind}
    (kind : overrideKind before.overrideActive s.overrideActive = some k) (cause : Reason) (line : Option LineIx) :
    (s.overrideTransition before cause line).lane = s.lane.place (s.overrideReport k cause line) := by
  rw [State.overrideTransition_eq kind]
  split
  · rfl
  · rw [State.relit_overrideLamps _ before]; rfl

/-- Whatever changed the sources, the lamps follow (R168 to R170). -/
theorem overrideLampsFollow_overrideTransition {s u : State} (h : s.resourced u) (cause : Reason)
    (line : Option LineIx) : overrideLampsFollow s (u.overrideTransition s cause line) := by
  have stations : u.stations = s.stations := by obtain ⟨_, _, _, _, rfl⟩ := h; rfl
  have spurs : u.spurs = s.spurs := by obtain ⟨_, _, _, _, rfl⟩ := h; rfl
  cases kind : overrideKind s.overrideActive u.overrideActive with
  | none =>
    have both : s.overrideActive = false ∧ u.overrideActive = false := by
      revert kind; cases s.overrideActive <;> cases u.overrideActive <;> simp [overrideKind]
    rw [State.overrideTransition_none both.1 both.2]
    exact overrideLampsFollow_of_same stations spurs (both.1.trans both.2.symm)
  | some k =>
    rw [State.overrideTransition_eq kind]
    split
    · next same => exact overrideLampsFollow_of_same stations spurs same
    · next ne =>
      obtain ⟨lines, walls, override, lane, rfl⟩ := h
      exact overrideLampsFollow_overrideLamps ⟨lines, walls, override, _, rfl⟩ ne

/-! ## A directive executed at once (R182) -/

/-- A directive handed to a part that is ready is carried out in the executing state; where that leaves the lane as it
was but for its reports, the RESULT follows them and the queue is empty again. -/
theorem State.submit_of_ready {s : State} {d : Directive} {r : Reply} (ready : s.ready)
    (fits : d.payload.length ≤ Config.payloadMax) (run : d.run (s.executing d) = r)
    (lane : (s.executing d).sameLane r.state) :
    s.submit d = { r.state with lane := { s.lane with
      reports := r.state.lane.reports ++ [⟨.result d.kind d.tag r.code r.data, false⟩], reserved := false } } := by
  obtain ⟨empty, overrun, room⟩ := ready
  have executes : s.submit d = (r.state.placeResult d r.code r.data).leaveQueue := by
    have queued : s.enqueueDirective d = { s with lane := { s.lane with directives := [d] } } := by
      simp [State.enqueueDirective, empty, Config.directiveQueueSize]
    have head : State.executeHead { s with lane := { s.lane with directives := [d] } } =
        State.executeDirective { s with lane := { s.lane with directives := [d] } } d :=
      if_pos (by simpa [State.canExecute] using room)
    rw [State.submit, if_neg (Nat.not_lt.mpr fits), if_pos (by simp [empty]), queued, head, ← run]
    rfl
  have kept : r.state.lane = { (s.executing d).lane with reports := r.state.lane.reports } := lane
  have noOverrun : (r.state.placeResult d r.code r.data).lane.overrun = none := by
    rw [State.placeResult, kept]; exact overrun
  rw [executes, State.leaveQueue, noOverrun]
  dsimp only [State.placeResult]
  rw [kept]
  simp only [State.executing, List.tail_cons, ← empty, ← overrun]

/-- A directive that the examination refuses is answered with that code, and nothing else changes (R183, R194). -/
theorem State.submit_of_refused {s : State} {d : Directive} {c : ResultCode} (ready : s.ready)
    (fits : d.payload.length ≤ Config.payloadMax) (refused : examine d.kind d.payload = .refused c) :
    s.submit d = s.answered d.kind d.tag c .nothing := by
  have run : d.run (s.executing d) = (s.executing d).refuse c := by rw [Directive.run, refused]
  rw [State.submit_of_ready ready fits run rfl]
  rfl

/-! ## ANNOUNCE (R167) -/

/-- The bytes of an ANNOUNCE that carries the state b, and perhaps a code. -/
def announceBytes (b : Byte) (code : Option Byte) : List Byte := b :: masked [code.map fun c => [c]]

theorem announceBytes_fits (b : Byte) (code : Option Byte) : (announceBytes b code).length ≤ Config.payloadMax := by
  cases code <;> simp [announceBytes, masked, optBytes, u8, Config.payloadMax]

/-- The payload of an ANNOUNCE has the length its form asks for, and its code is read as it stands: what the examination
makes of it is what it makes of the state (11.5, R194). -/
theorem examine_announce (b : Byte) (code : Option Byte) :
    examine 0x15 (announceBytes b code) =
      match readFlag [b] with
      | some on => .order (.announce on code)
      | none => .refused .badField := by
  have split : Form.split ⟨[.bytes 1], 1, [.bytes 1]⟩ (announceBytes b code) =
      some ⟨[[b]], maskOf [code.map fun c => [c]], [code.map fun c => [c]]⟩ := by
    cases code <;>
      simp [announceBytes, masked, maskOf, optBytes, u8, Form.split, takeParts, takePart, takeBytes, takeOpts,
        bigEndian]
  have mask : ¬ 2 ^ 1 ≤ maskOf [code.map fun c => [c]] := by cases code <;> simp [maskOf]
  have read : readOpt readByte (code.map fun c => [c]) = some code := by
    cases code <;> simp [readOpt, readByte, bigEndian]
  have form : formOf 0x15 = some ⟨[.bytes 1], 1, [.bytes 1]⟩ := rfl
  have order : readOrder 0x15 ⟨[[b]], maskOf [code.map fun c => [c]], [code.map fun c => [c]]⟩ =
      (readFlag [b]).map fun on => .announce on code := by
    change ((readFlag [b]).bind fun on => (readOpt readByte (code.map fun c => [c])).bind fun c =>
      some (Order.announce on c)) = _
    rw [read]
    cases readFlag [b] <;> rfl
  simp only [examine, form, split, order]
  rw [List.length_singleton, if_neg mask]
  cases readFlag [b] <;> rfl

/-- A state byte above 1 is neither ON nor OFF. -/
theorem readFlag_of_large {b : Byte} (h : 1 < b.toNat) : readFlag [b] = none := by
  have big : bigEndian [b] = b.toNat := by simp [bigEndian]
  rw [readFlag, big]
  split <;> simp_all

/-- What ANNOUNCE makes of the override unit: the directive source takes the state, and a code carried is written. -/
def State.announced (s : State) (on : Bool) (code : Option Byte) : State :=
  { s with override := ⟨on, code.getD s.override.code⟩ }

theorem State.resourced_announced (s : State) (on : Bool) (code : Option Byte) : s.resourced (s.announced on code) :=
  ⟨_, _, _, _, rfl⟩

theorem State.announce_of_same {s : State} {on : Bool} (same : s.override.source = on) (code : Option Byte) :
    s.announce on code = s.announced on code := if_pos same

theorem State.announce_of_change {s : State} {on : Bool} (change : s.override.source ≠ on) (code : Option Byte) :
    s.announce on code = (s.announced on code).overrideTransition s .directive none := if_neg change

/-- Whether override is active once the directive source has taken a state (R165). -/
theorem State.overrideActive_announced (s : State) (on : Bool) (code : Option Byte) :
    (s.announced on code).overrideActive = (on || !s.overrideLines.isEmpty) := rfl

/-- The kind of the transition when the directive source changes to a state (R168): CHANGED while a line stands. -/
def announceKind (on : Bool) (lines : List LineIx) : OverrideKind :=
  if on then (if lines = [] then .start else .changed) else (if lines = [] then .stop else .changed)

theorem overrideKind_announced {s : State} {on : Bool} (change : s.override.source ≠ on) (code : Option Byte) :
    overrideKind s.overrideActive (s.announced on code).overrideActive = some (announceKind on s.overrideLines) := by
  have was : s.override.source = !on := Bool.eq_not_of_ne change
  rw [State.overrideActive_announced, State.overrideActive, was]
  cases on <;> cases s.overrideLines <;> rfl

/-- Whatever ANNOUNCE does, only records and spurs are written beside the override unit and the lane. -/
theorem State.announce_frame (s : State) (on : Bool) (code : Option Byte) :
    s.announce on code = { s.announced on code with
      stations := (s.announce on code).stations, spurs := (s.announce on code).spurs,
      lane := (s.announce on code).lane } := by
  by_cases same : s.override.source = on
  · rw [State.announce_of_same same]
  · rw [State.announce_of_change same]
    obtain ⟨t, ht, h⟩ := (s.announced on code).overrideTransition_frame s .directive none
    generalize State.overrideTransition _ _ _ _ = u at h ⊢
    rw [h]
    obtain rfl | ⟨r, rfl⟩ := ht <;> rfl

/-- The report that ANNOUNCE places when the source changes (R168). -/
def State.announceReport (s : State) (on : Bool) (code : Option Byte) : Report :=
  .override (.sources (announceKind on s.overrideLines) .directive none on s.overrideLines
    (code.getD s.override.code))

/-- The data of ANNOUNCE's RESULT (R167). -/
def State.announceData (s : State) (on : Bool) (code : Option Byte) : ResultData :=
  .announce on (code.getD s.override.code) (on || !s.overrideLines.isEmpty) s.overrideLines

theorem State.announce_lane_of_change {s : State} {on : Bool} (change : s.override.source ≠ on) (code : Option Byte) :
    (s.announce on code).lane = s.lane.place (s.announceReport on code) := by
  rw [State.announce_of_change change, State.overrideTransition_lane (overrideKind_announced change code)]
  rfl

theorem State.sameLane_announce (s : State) (on : Bool) (code : Option Byte) : s.sameLane (s.announce on code) := by
  by_cases same : s.override.source = on
  · rw [State.announce_of_same same]; rfl
  · rw [State.sameLane, State.announce_lane_of_change same]
    exact (s.grows_place _).2.1

/-- ANNOUNCE is always carried out, and its RESULT says how the sources stand then (R167). -/
theorem runAnnounce_eq (s : State) (on : Bool) (code : Option Byte) :
    runAnnounce on code s = (s.announce on code).accept (s.announceData on code) := by
  have frame := s.announce_frame on code
  unfold runAnnounce
  generalize s.announce on code = t at frame ⊢
  rw [frame]
  rfl

theorem payload_announce (on : Bool) (code : Option Byte) :
    (Order.announce on code).payload = announceBytes (if on then 1 else 0) code := by
  cases on <;> rfl

/-- The state in which an ANNOUNCE handed to a part that is ready is carried out. -/
def State.executingAnnounce (s : State) (tag : Byte) (on : Bool) (code : Option Byte) : State :=
  s.executing ⟨0x15, tag, (Order.announce on code).payload⟩

/-- ANNOUNCE in a part that is ready is carried out at once and answered (R167, R182). -/
theorem exec_announce {s : State} (ready : s.ready) (tag : Byte) (on : Bool) (code : Option Byte) :
    exec (.announce tag (Order.announce on code).payload) s =
      .next { (s.executingAnnounce tag on code).announce on code with lane := { s.lane with
        reports := ((s.executingAnnounce tag on code).announce on code).lane.reports ++
          [⟨.result 0x15 tag .ok (s.announceData on code), false⟩]
        reserved := false } } := by
  have examined : examine 0x15 (Order.announce on code).payload = .order (.announce on code) := by
    rw [payload_announce, examine_announce]; cases on <;> rfl
  have fits : (Order.announce on code).payload.length ≤ Config.payloadMax := by
    rw [payload_announce]; exact announceBytes_fits _ code
  have run : Directive.run ⟨0x15, tag, (Order.announce on code).payload⟩ (s.executingAnnounce tag on code) =
      runAnnounce on code (s.executingAnnounce tag on code) := by rw [Directive.run, examined]; rfl
  rw [runAnnounce_eq] at run
  exact congrArg Host.Outcome.next (State.submit_of_ready ready fits run (State.sameLane_announce _ on code))

/-- ANNOUNCE that leaves the source as it is writes the code alone. -/
theorem exec_announce_of_same {s : State} (ready : s.ready) (tag : Byte) {on : Bool} (code : Option Byte)
    (same : s.override.source = on) :
    exec (.announce tag (Order.announce on code).payload) s =
      .next ((s.announced on code).answered 0x15 tag .ok (s.announceData on code)) := by
  have kept : (s.executingAnnounce tag on code).override.source = on := same
  rw [exec_announce ready, State.announce_of_same kept]
  rfl

/-- ANNOUNCE that changes the source: what it writes, the lamps that follow, and the two reports (R167 to R170). -/
theorem exec_announce_of_change {s : State} (ready : s.ready) (tag : Byte) {on : Bool} (code : Option Byte)
    (change : s.override.source ≠ on) :
    ∃ t, exec (.announce tag (Order.announce on code).payload) s = .next t ∧
      t = { s.announced on code with stations := t.stations, spurs := t.spurs, lane := t.lane } ∧
      overrideLampsFollow s t ∧
      t.reportList =
        s.reportList ++ [s.announceReport on code, .result 0x15 tag .ok (s.announceData on code)] := by
  have answer := exec_announce ready tag on code
  have room : (s.executingAnnounce tag on code).hasReportRoom := by
    obtain ⟨-, -, free⟩ := ready
    change s.lane.reports.length + 2 ≤ 64 at free
    change s.lane.reports.length < 63
    omega
  have changed : (s.executingAnnounce tag on code).override.source ≠ on := change
  have lane := State.announce_lane_of_change changed code
  have frame := (s.executingAnnounce tag on code).announce_frame on code
  have lamps := overrideLampsFollow_overrideTransition
    ((s.executingAnnounce tag on code).resourced_announced on code) .directive none
  rw [← State.announce_of_change changed] at lamps
  refine ⟨_, answer, ?frame, lamps, ?reports⟩
  case frame =>
    generalize State.announce _ on code = t at frame ⊢
    rw [frame]
    rfl
  case reports =>
    rw [State.reportList, List.map_append, lane, LaneUnit.place_of_room room, List.append_assoc]
    rfl

/-- A state byte that is neither ON nor OFF is refused, with or without a code, and nothing is written (R167). -/
theorem exec_announce_of_badState {s : State} (ready : s.ready) (tag : Byte) (code : Option Byte) {b : Byte}
    (bad : 1 < b.toNat) :
    exec (.announce tag (announceBytes b code)) s = .next (s.answered 0x15 tag .badField .nothing) :=
  congrArg Host.Outcome.next <| State.submit_of_refused (d := ⟨0x15, tag, announceBytes b code⟩) ready
    (announceBytes_fits b code) (by rw [examine_announce, readFlag_of_large bad])

/-! ## The OVERRIDE lines (R165) -/

theorem State.overrideLines_ascending (s : State) : s.overrideLines.Pairwise (· < ·) :=
  (List.pairwise_lt_finRange 24).sublist List.filter_sublist

theorem State.mem_overrideLines {s : State} {l : LineIx} :
    l ∈ s.overrideLines ↔ (s.line l).fn = .override ∧ (s.line l).debounced = true := by
  simp [State.overrideLines, mem_finsWhere]

theorem State.overrideActive_iff {s : State} :
    s.overrideActive = true ↔ s.override.source = true ∨ s.overrideLines ≠ [] := by
  simp [State.overrideActive]

/-- Settles O57: the lines and the sources as they are derived, and ANNOUNCE by whether its state is the source's,
another one, or neither ON nor OFF. -/
theorem announceSetsTheDirectiveSource : Obligations.AnnounceSetsTheDirectiveSource := by
  intro s tag on code ready
  refine ⟨s.overrideLines_ascending, fun _ => State.mem_overrideLines, State.overrideActive_iff, fun same => ?same,
    fun change => exec_announce_of_change ready tag code change,
    fun _ bad => exec_announce_of_badState ready tag code bad⟩
  case same =>
    rw [exec_announce_of_same ready tag code same, State.overrideActive, same]
    rfl

end Sys2Proof.Machine
end
